-- ==== Sys2Proof/Word.lean ====
section
/-! DEFINITION. The words of the 3140: bytes, and the 32-bit numbers of addresses, sequence numbers
and epoch numbers (00_scope, CONVENTIONS). -/

namespace Sys2Proof

/-- One byte, in memory, in a record, or on the management link. -/
abbrev Byte := BitVec 8

/-- A 32-bit unsigned number: a byte address, a sequence number, an epoch number, a generation, a
timer count (00_scope, Addresses and Numbers). -/
abbrev Num := BitVec 32

end Sys2Proof
end

