-- ==== Sys2Proof/Config.lean ====
section
/-! DEFINITION. What the part fixes as constants, and the one value its manual leaves open. -/

namespace Sys2Proof.Config

/-- Capacity of the Transaction Window (R84). -/
def windowCapacity : Nat := 8

/-- Capacity of the Capture Set (R55). -/
def captureSetCapacity : Nat := 64

/-- Run slots of the Staging Buffer (R67); the eighth slot is the filler slot. -/
def runSlotCount : Nat := 7

/-- Most header writes the log stream holds (R16). -/
def headerWriteCapacity : Nat := 8

/-- Most marks the mark list holds (R28). -/
def markCapacity : Nat := 8

/-- Slots of the Memory Port's outstanding list (R150). -/
def outstandingCapacity : Nat := 4

/-- Value of the host bypass count at which the next grant goes to HOST (R153, R154). -/
def bypassLimit : Nat := 4

/-- Capacity of the Event Queue (R170). -/
def eventCapacity : Nat := 8

/-- Bytes of a granule (00_scope, Granules). -/
def granuleBytes : Nat := 32

/-- Bytes of the aligned block a host transaction lies in (00_scope, Host transactions). -/
def blockBytes : Nat := 128

/-- Offset of the ring from the log base: the two header copies lie before it (R1). -/
def ringOffset : Nat := 512

/-- FREE VALUE, assumption 5. Sequence and epoch numbers are compared modulo 2³² (00_scope, Numbers). The manual
does not say which of two numbers exactly 2³¹ apart is the lower, and the live values never are. -/
opaque halfRangeBelow : Num → Num → Bool

end Sys2Proof.Config
end

