-- ==== Sys2Proof/Machine/Numbers.lean ====
section
/-! DEFINITION. Numbers of the manual: comparison of sequence and epoch numbers, ring arithmetic, byte orders, and the
cyclic redundancy checks (00_scope, CONVENTIONS; 10_formats). -/

namespace Sys2Proof.Machine

/-! ## Sequence and epoch numbers -/

/-- `a` is below (older than) `b`: numbers are compared modulo 2³² (00_scope, Numbers). Two numbers exactly 2³¹ apart
compare by a free value (assumption 5). -/
def below (a b : Num) : Bool :=
  let distance := (b - a).toNat
  if distance = 2 ^ 31 then Config.halfRangeBelow a b else decide (0 < distance ∧ distance < 2 ^ 31)

/-- The larger of two numbers. -/
def larger (a b : Num) : Num := if below a b then b else a

/-! ## The ring -/

/-- The ring position `n` bytes after position `p` in a ring of `S` bytes. -/
def ringAdd (S p n : Nat) : Nat := (p + n) % S

/-- The bytes from position `b` forward to position `a`: (a − b) mod S. -/
def ringSub (S a b : Nat) : Nat := (a + (S - b % S)) % S

/-! ## Byte orders -/

/-- Bytes of a number in memory, least significant byte first (10_formats). -/
def le32 (n : Num) : List Byte :=
  [n.extractLsb' 0 8, n.extractLsb' 8 8, n.extractLsb' 16 8, n.extractLsb' 24 8]

/-- Bytes of a 16-bit code in memory, least significant byte first (R205). -/
def le16 (n : BitVec 16) : List Byte :=
  [n.extractLsb' 0 8, n.extractLsb' 8 8]

/-- Bytes of a number on the management link, most significant byte first (10_formats). -/
def be32 (n : Num) : List Byte :=
  [n.extractLsb' 24 8, n.extractLsb' 16 8, n.extractLsb' 8 8, n.extractLsb' 0 8]

/-- Bytes of a 16-bit number on the management link, most significant byte first. -/
def be16 (n : BitVec 16) : List Byte :=
  [n.extractLsb' 8 8, n.extractLsb' 0 8]

/-- The number of four bytes, most significant first. -/
def join32 (b3 b2 b1 b0 : Byte) : Num := b3 ++ b2 ++ b1 ++ b0

/-- The number of two bytes, most significant first. -/
def join16 (b1 b0 : Byte) : BitVec 16 := b1 ++ b0

/-- The byte at an offset of a structure; what lies beyond its end reads as zero. -/
def byteAt (bytes : List Byte) (offset : Nat) : Byte := bytes.getD offset 0

/-- The number at an offset of a structure in memory. -/
def readLe32 (bytes : List Byte) (offset : Nat) : Num :=
  join32 (byteAt bytes (offset + 3)) (byteAt bytes (offset + 2)) (byteAt bytes (offset + 1)) (byteAt bytes offset)

/-- The 16-bit code at an offset of a structure in memory. -/
def readLe16 (bytes : List Byte) (offset : Nat) : BitVec 16 :=
  join16 (byteAt bytes (offset + 1)) (byteAt bytes offset)

/-! ## Check codes (R205) -/

/-- One message bit into a check-code register: compare with the most significant bit, shift, and exclusive-or with the
generator if they differed (R205). -/
def crcBit {w : Nat} (generator register : BitVec w) (bit : Bool) : BitVec w :=
  if register.msb = bit then register <<< 1 else (register <<< 1) ^^^ generator

/-- The bits of a byte, most significant first. -/
def byteBits (b : Byte) : List Bool :=
  [b.getLsbD 7, b.getLsbD 6, b.getLsbD 5, b.getLsbD 4, b.getLsbD 3, b.getLsbD 2, b.getLsbD 1, b.getLsbD 0]

/-- The register after a message, each byte taken most significant bit first (R205). -/
def crc {w : Nat} (generator initial : BitVec w) (message : List Byte) : BitVec w :=
  message.foldl (fun register b => (byteBits b).foldl (crcBit generator) register) initial

/-- Record check code, CRC-16 (R205). -/
def crc16 (message : List Byte) : BitVec 16 := crc 0x1021#16 0xFFFF#16 message

/-- Header check code, CRC-32 with final inversion (R205). -/
def crc32 (message : List Byte) : Num := ~~~ (crc 0x04C11DB7#32 0xFFFFFFFF#32 message)

/-- Link CRC-8 (R205). -/
def crc8 (message : List Byte) : Byte := crc 0x07#8 0#8 message

end Sys2Proof.Machine
end

