-- ==== Sys2Proof/Syntax.lean ====
section
/-! DEFINITION. The commands of the block: one constructor of `Instr` for each row of
spec/opcode_table.json, with the operands its rules give it. -/

namespace Sys2Proof

/-- One of the four sources of host transactions (00_scope, Requesters and tags). -/
abbrev Requester := Fin 4

/-- A requester's transaction tag (00_scope). -/
abbrev Tag := Fin 16

/-- What a host request asks for (R75). A WRITE carries, for each byte of the transaction, its byte mask (whether it
is written) and its data; their number is the length. -/
inductive HostOp where
  | read (length : Nat)
  | write (bytes : List (Bool × Byte))
  deriving DecidableEq, Repr

/-- A request on the host port's request channel (R75). -/
structure HostRequest where
  requester : Requester
  tag : Tag
  address : Num
  op : HostOp
  deriving DecidableEq, Repr

/-- A memory response that may answer a READ: OKAY with the bytes of the span, or ERROR (R149). -/
inductive MemResponse where
  | okay (data : List Byte)
  | error
  deriving DecidableEq, Repr

/-- The result of a WRITE made by the part for itself (R149). -/
inductive WriteResult where
  | okay
  | error
  deriving DecidableEq, Repr

/-- The two edges of the RST input, active low (R146). -/
inductive RstEdge where
  | falls
  | rises
  deriving DecidableEq, Repr

/-- The commands the block takes: the steps of the part, each whole and indivisible (95_what_each_step_holds), one
constructor for each row of spec/opcode_table.json. -/
inductive Instr where
  /-- POWER_ON (R146). -/
  | powerOn
  /-- RST (R146): an edge of the RST input. -/
  | rst (edge : RstEdge)
  /-- HOST_REQUEST_ACCEPT (R76): `arriving` joins the request channel, if there is one, and the presented request is
  accepted if it may be. -/
  | hostRequestAccept (arriving : Option HostRequest)
  /-- CAPTURE_DECISION (R58): the oldest entry that may leave ORDERED leaves it. -/
  | captureDecision
  /-- CAPTURE_WALK (R63). -/
  | captureWalk
  /-- HEADER_WRITE_PLACEMENT (R16). -/
  | headerWritePlacement
  /-- MEMORY_GRANT (R153): one grant. -/
  | memoryGrant
  /-- CAPTURE_READ_RESPONSE (R65). -/
  | captureReadResponse (response : MemResponse)
  /-- ABANDONED_READ_RETURN (R71). -/
  | abandonedReadReturn (response : MemResponse)
  /-- RECORD_WRITE_RESPONSE (R18, R22). -/
  | recordWriteResponse (result : WriteResult)
  /-- HEADER_WRITE_RESPONSE (R19, R22). -/
  | headerWriteResponse (result : WriteResult)
  /-- DISCARDED_ITEM_RESPONSE (R156). -/
  | discardedItemResponse (result : WriteResult)
  /-- CHECKPOINT_BOUNDARY (R38). -/
  | checkpointBoundary
  /-- QUIESCE_COMPLETE (R107). -/
  | quiesceComplete
  /-- ROLLBACK_RECORD_READ_RESPONSE (R111). -/
  | rollbackRecordReadResponse (response : MemResponse)
  /-- RESTORE_WRITE_RESPONSE (R113). -/
  | restoreWriteResponse (result : WriteResult)
  /-- FORMAT_COPY_WRITE_RESPONSE (R131). -/
  | formatCopyWriteResponse (result : WriteResult)
  /-- ATTACH_HEADER_READ_RESPONSE (R134). -/
  | attachHeaderReadResponse (response : MemResponse)
  /-- WALK_HEADER_READ_RESPONSE (R136). -/
  | walkHeaderReadResponse (response : MemResponse)
  /-- WALK_RECORD_READ_RESPONSE (R137). -/
  | walkRecordReadResponse (response : MemResponse)
  /-- HOST_ACCESS_RESPONSE (R90). -/
  | hostAccessResponse (response : MemResponse)
  /-- ORPHAN_RESPONSE (R159). -/
  | orphanResponse (response : MemResponse)
  /-- STRAY_RESPONSE (R149). -/
  | strayResponse (response : MemResponse)
  /-- DETACH_COMPLETE (R145). -/
  | detachComplete
  /-- RESPONSE_DELIVERY (R100). -/
  | responseDelivery
  /-- HOLD_TIMEOUT (R96). -/
  | holdTimeout
  /-- EPOCH_TIMER (R52). -/
  | epochTimer
  /-- CKPT_STROBE (R42). -/
  | ckptStrobe
  /-- FAULT_STROBE (R161). -/
  | faultStrobe
  /-- FRAME_DISCARD (R180): `bits` are the bits sampled at the rising edges of MSCK in one low period of MSCS (R178). -/
  | frameDiscard (bits : List Bool)
  /-- NOP (R185). -/
  | nop
  /-- READ_STATUS (R189). -/
  | readStatus
  /-- SET_REGION (R81), its arguments as the frame carries them (R187). -/
  | setRegion (index : Byte) (base size : Num) (mode mask : Byte)
  /-- CLEAR_REGION (R83). -/
  | clearRegion (index : Byte)
  /-- READ_REGION (R190). -/
  | readRegion (index : Byte)
  /-- SET_LOG (R127). -/
  | setLog (base size : Num)
  /-- FORMAT (R130). -/
  | format
  /-- ATTACH (R133). -/
  | attach
  /-- DETACH (R143). -/
  | detach
  /-- CHECKPOINT (R35). -/
  | checkpoint
  /-- RELEASE (R44). -/
  | release (n : Byte)
  /-- DISCARD (R47). -/
  | discard
  /-- ROLLBACK (R103, R105). -/
  | rollback (depth : Byte)
  /-- HALT (R118). -/
  | halt
  /-- RESUME (R120). -/
  | resume
  /-- FREEZE (R168). -/
  | freeze
  /-- THAW (R169). -/
  | thaw
  /-- SET_POLICY (R196), its seven arguments as the frame carries them (R187, R203). -/
  | setPolicy (logFull faultAction : Byte) (holdLimit : BitVec 16) (threshold : Byte) (prescaler : BitVec 16)
      (reference : Num) (timerAction : Byte)
  /-- READ_POLICY (R197). -/
  | readPolicy
  /-- READ_MARK (R191). -/
  | readMark (index : Byte)
  /-- POP_EVENT (R173). -/
  | popEvent
  /-- CLEAR_SUMMARY (R175). -/
  | clearSummary
  /-- RESTART (R198). -/
  | restart
  /-- TICK (R50, R95). -/
  | tick
  deriving DecidableEq, Repr

end Sys2Proof
end

