-- ==== Sys2Proof/Decode.lean ====
section
/-! DEFINITION. Decoding. The rows of spec/opcode_table.json carry no bits, so `decodeTableWord` answers none. The encoding
the manual does give is that of the management link's frames (R179, R187, R202, R203): `decodeFrame` reads a command from a
whole frame, or refuses it as R180 says, and `encodeFrame` writes the frame of a command. -/

namespace Sys2Proof

/-- The command a table word spells. No row of the table gives bits: none for every word (assumption 22). -/
def decodeTableWord (_nbits _w : Nat) : Option Instr := none

open Machine (be16 be32 crc8 join16 join32)

/-- The command a command number and its arguments name; none for an unknown command or an argument byte count that is
not the command's (R180, R187, R202). -/
def decodeCommand (number : Byte) (arguments : List Byte) : Option Instr :=
  match number.toNat, arguments with
  | 0x01, [] => some .nop
  | 0x02, [] => some .readStatus
  | 0x03, [i] => some (.readRegion i)
  | 0x04, [i] => some (.readMark i)
  | 0x05, [] => some .readPolicy
  | 0x06, [] => some .popEvent
  | 0x11, [i, b3, b2, b1, b0, s3, s2, s1, s0, m, w] =>
    some (.setRegion i (join32 b3 b2 b1 b0) (join32 s3 s2 s1 s0) m w)
  | 0x12, [i] => some (.clearRegion i)
  | 0x13, [b3, b2, b1, b0, s3, s2, s1, s0] => some (.setLog (join32 b3 b2 b1 b0) (join32 s3 s2 s1 s0))
  | 0x14, [l, f, h1, h0, t, p1, p0, r3, r2, r1, r0, a] =>
    some (.setPolicy l f (join16 h1 h0) t (join16 p1 p0) (join32 r3 r2 r1 r0) a)
  | 0x15, [] => some .clearSummary
  | 0x20, [] => some .format
  | 0x21, [] => some .attach
  | 0x22, [] => some .detach
  | 0x23, [] => some .checkpoint
  | 0x24, [n] => some (.release n)
  | 0x25, [] => some .discard
  | 0x26, [d] => some (.rollback d)
  | 0x27, [] => some .halt
  | 0x28, [] => some .resume
  | 0x30, [] => some .freeze
  | 0x31, [] => some .thaw
  | 0x3F, [] => some .restart
  | _, _ => none

/-- The command of a complete frame: command number, argument byte count, arguments and CRC-8 (R179). None if the frame
is discarded: a count above 16, a number of bytes that is not the count's, a bad CRC, an unknown command, or a wrong
count (R180). -/
def decodeFrame (bytes : List Byte) : Option Instr :=
  match bytes with
  | number :: count :: rest =>
    if count.toNat ≤ 16 ∧ rest.length = count.toNat + 1 ∧ rest.getLast? = some (crc8 bytes.dropLast) then
      decodeCommand number rest.dropLast
    else none
  | _ => none

/-- The command number and arguments of a management link command; none for a row that is no link command
(R187, R202, R203). -/
def frameContents : Instr → Option (Byte × List Byte)
  | .nop => some (0x01, [])
  | .readStatus => some (0x02, [])
  | .readRegion i => some (0x03, [i])
  | .readMark i => some (0x04, [i])
  | .readPolicy => some (0x05, [])
  | .popEvent => some (0x06, [])
  | .setRegion i b s m w => some (0x11, [i] ++ be32 b ++ be32 s ++ [m, w])
  | .clearRegion i => some (0x12, [i])
  | .setLog b s => some (0x13, be32 b ++ be32 s)
  | .setPolicy l f h t p r a => some (0x14, [l, f] ++ be16 h ++ [t] ++ be16 p ++ be32 r ++ [a])
  | .clearSummary => some (0x15, [])
  | .format => some (0x20, [])
  | .attach => some (0x21, [])
  | .detach => some (0x22, [])
  | .checkpoint => some (0x23, [])
  | .release n => some (0x24, [n])
  | .discard => some (0x25, [])
  | .rollback d => some (0x26, [d])
  | .halt => some (0x27, [])
  | .resume => some (0x28, [])
  | .freeze => some (0x30, [])
  | .thaw => some (0x31, [])
  | .restart => some (0x3F, [])
  | .powerOn => none
  | .rst _ => none
  | .hostRequestAccept _ => none
  | .captureDecision => none
  | .captureWalk => none
  | .headerWritePlacement => none
  | .memoryGrant => none
  | .captureReadResponse _ => none
  | .abandonedReadReturn _ => none
  | .recordWriteResponse _ => none
  | .headerWriteResponse _ => none
  | .discardedItemResponse _ => none
  | .checkpointBoundary => none
  | .quiesceComplete => none
  | .rollbackRecordReadResponse _ => none
  | .restoreWriteResponse _ => none
  | .formatCopyWriteResponse _ => none
  | .attachHeaderReadResponse _ => none
  | .walkHeaderReadResponse _ => none
  | .walkRecordReadResponse _ => none
  | .hostAccessResponse _ => none
  | .orphanResponse _ => none
  | .strayResponse _ => none
  | .detachComplete => none
  | .responseDelivery => none
  | .holdTimeout => none
  | .epochTimer => none
  | .ckptStrobe => none
  | .faultStrobe => none
  | .frameDiscard _ => none
  | .tick => none

/-- The bytes before the CRC of a frame (R179). -/
def frameMessage (number : Byte) (arguments : List Byte) : List Byte :=
  number :: BitVec.ofNat 8 arguments.length :: arguments

/-- The frame of a management link command; none for a row that is no link command (R179, R202). -/
def encodeFrame (i : Instr) : Option (List Byte) :=
  (frameContents i).map fun c => frameMessage c.1 c.2 ++ [crc8 (frameMessage c.1 c.2)]

end Sys2Proof
end

