-- ==== Sys2Proof/Machine/State.lean ====
section
/-! DEFINITION. The state of the 3140 as plain data, block by block (00_scope, BLOCK DIAGRAM), and the state after reset.
Ring positions, lengths and counts are natural numbers; what the manual numbers in 32 bits is a `Num`. -/

namespace Sys2Proof.Machine

/-! ## Names of the manual -/

/-- The engine states (00_scope, ENGINE STATES; codes of R203 in this order). -/
inductive EngineState where
  | detached | formatting | scanning | armed | checkpointing | updating
  | quiescing | rollingBack | halted | logFault | detaching
  deriving DecidableEq, Repr

/-- READ or WRITE (R75, R148). -/
inductive AccessKind where
  | read | write
  deriving DecidableEq, Repr

/-- Region modes (R78). -/
inductive RegionMode where
  | pass | logged
  deriving DecidableEq, Repr

/-- The result of a host transaction (R77). -/
inductive HostResult where
  | okay | error | refused
  deriving DecidableEq, Repr

/-- Hold causes (R94). -/
inductive HoldCause where
  | freeze | space | rollback
  deriving DecidableEq, Repr

/-- Reasons of a refused transaction (R98). -/
inductive RefusalReason where
  | permission | logFault | cancelled | holdTimeout
  deriving DecidableEq, Repr

/-- The log-full policy (R13 to R15). -/
inductive LogFullPolicy where
  | wait | recycle
  deriving DecidableEq, Repr

/-- The fault action (R162). -/
inductive FaultAction where
  | ignore | freeze | freezeRollback
  deriving DecidableEq, Repr

/-- The epoch timer's action (R49). -/
inductive TimerAction where
  | event | checkpoint | freeze
  deriving DecidableEq, Repr

/-- The kinds of record (R2, R3); `other` stands for the kind values 0 and 3, which the part never writes (R200). -/
inductive RecordKind where
  | data | filler | other
  deriving DecidableEq, Repr

/-- The two header copies (R1). -/
inductive CopyName where
  | a | b
  deriving DecidableEq, Repr

/-! ## Marks, records and header copies -/

/-- A mark (R27). -/
structure Mark where
  epoch : Num
  firstSeq : Num
  offset : Nat
  back : Nat
  duration : Num
  recovered : Bool
  deriving DecidableEq, Repr

/-- The fields of a record header (R2, R3, R200); `back` is the back length and `count` the run count. -/
structure RecordHeader where
  seq : Num
  epoch : Num
  first : Num
  back : Nat
  count : Nat
  poison : Bool
  requester : Requester
  kind : RecordKind
  check : BitVec 16
  deriving DecidableEq, Repr

/-- A record as it stands in the log stream: its header, its data bytes (none for a filler), its ring position and the
ring space it takes (R2, R3, R5). -/
structure Record where
  header : RecordHeader
  data : List Byte
  position : Nat
  length : Nat
  deriving DecidableEq, Repr

/-- The fields of a header copy (R20), its check code among them. -/
structure HeaderCopy where
  format : Num
  generation : Num
  ringSize : Num
  nextEpoch : Num
  nextSeq : Num
  marks : List Mark
  check : Num
  deriving DecidableEq, Repr

/-- What asked for a header write of the stream, and so what its persistence finishes (R19, R21). -/
inductive HeaderPurpose where
  | checkpoint | release | discard | rollback | attach | recycle
  deriving DecidableEq, Repr

/-- An item of the log stream (R16). -/
inductive StreamBody where
  | record (r : Record)
  | header (purpose : HeaderPurpose) (copy : HeaderCopy)
  deriving DecidableEq, Repr

/-- An item of the log stream and whether it is issued or still queued (01, THE LOG STREAM). -/
structure StreamItem where
  body : StreamBody
  issued : Bool
  deriving DecidableEq, Repr

/-! ## Host Port and Transaction Window -/

/-- Host Port (R75, R100): the request channel, the presented request first; the requester whose response is offered
on the response channel; the last-served requester. -/
structure HostPort where
  channel : List HostRequest
  offered : Option Requester
  lastServed : Requester
  deriving DecidableEq, Repr

/-- A region snapshot that names a region (R79). -/
structure Snapshot where
  index : Fin 16
  mode : RegionMode
  mask : BitVec 4
  deriving DecidableEq, Repr

/-- A hold timer (R95): elapsed count and limit in microseconds; limit 0 never expires. -/
structure HoldTimer where
  elapsed : Nat
  limit : Nat
  deriving DecidableEq, Repr

/-- The phases of a window entry (R84, R85); cause and timer exist only while HELD, result and data only once DONE. -/
inductive Phase where
  | ordered
  | held (cause : HoldCause) (timer : HoldTimer)
  | capturing
  | awaitRecord
  | ready
  | issued
  | done (result : HostResult) (data : List Byte)
  deriving DecidableEq, Repr

/-- The conditions of a run (R62). `reading` says whether the capture read has been issued; `deferred` holds the data
the read returned, and whether it answered ERROR (R36). -/
inductive RunCondition where
  | pending
  | stalled
  | reading (issued : Bool)
  | deferred (poison : Bool) (data : List Byte)
  | recorded
  | abandoned
  deriving DecidableEq, Repr

/-- A run of missed granules at consecutive addresses (R59). `id` is the model's own name for it (assumption 18). -/
structure Run where
  id : Nat
  first : Num
  count : Nat
  condition : RunCondition
  deriving DecidableEq, Repr

/-- A wait list: at most one hit wait and one own wait (R61). -/
structure WaitList where
  hit : Option Num
  own : Option Num
  deriving DecidableEq, Repr

/-- A window entry (R84). `payload` holds byte mask and data of a WRITE until it is issued. `granules` is empty exactly
for a malformed request (R75). -/
structure Entry where
  requester : Requester
  tag : Tag
  kind : AccessKind
  address : Num
  length : Nat
  payload : List (Bool × Byte)
  granules : List Num
  snapshot : Option Snapshot
  epoch : Num
  phase : Phase
  waits : WaitList
  runs : List Run
  deriving DecidableEq, Repr

/-! ## Region Table, Capture Unit, Staging Buffer -/

/-- A Region Table entry (R78). Bit r of the write mask stands for requester r. -/
structure Region where
  valid : Bool
  base : Num
  size : Nat
  mode : RegionMode
  mask : BitVec 4
  deriving DecidableEq, Repr

/-- A Capture Set entry (R55). -/
structure CaptureEntry where
  granule : Num
  seq : Num
  deriving DecidableEq, Repr

/-- Capture Unit: the Capture Set, oldest first (R55), and the model's own run counter and walk signal
(assumptions 18 and 11). -/
structure CaptureUnit where
  set : List CaptureEntry
  nextRunId : Nat
  walkOwed : Bool
  deriving DecidableEq, Repr

/-- What a run slot holds (R67): a run that is reading, deferred or abandoned, or a data record until it persists. -/
inductive RunSlot where
  | run (id : Nat)
  | record (seq : Num)
  deriving DecidableEq, Repr

/-- Staging Buffer (R67): the run slots taken, in order of grant, and the filler slot. -/
structure Staging where
  runSlots : List RunSlot
  filler : Option Num
  deriving DecidableEq, Repr

/-! ## Log Controller -/

/-- The log area (R1, R127). -/
structure LogArea where
  base : Num
  size : Nat
  deriving DecidableEq, Repr

/-- Epoch timer (R49). `due` is the model's own: a firing that has fallen due, with the counter value that reached the
reference (assumption 16). -/
structure EpochTimer where
  ticks : Nat
  counter : Num
  fired : Bool
  due : Option Num
  deriving DecidableEq, Repr

/-- The policy set (R195). -/
structure Policy where
  logFull : LogFullPolicy
  faultAction : FaultAction
  holdLimit : BitVec 16
  threshold : Nat
  prescaler : Nat
  reference : Num
  timerAction : TimerAction
  deriving DecidableEq, Repr

/-- Log Controller (00_scope; R6 to R13, R21, R28, R29, R35, R43, R49, R128, R164, R167, R195). `reservedEpoch` is
present from a checkpoint's acceptance to its boundary; `waitingHeader` is a header write asked for and not yet placed
(R16). -/
structure LogController where
  engine : EngineState
  freeze : Bool
  checkpointLatch : Bool
  faultLatch : Bool
  area : Option LogArea
  marks : List Mark
  tail : Nat
  writePos : Nat
  durableHead : Nat
  lastLength : Nat
  nextSeq : Num
  nextEpoch : Num
  generation : Num
  reserved : Nat
  lowSpace : Bool
  logFull : Bool
  reservedEpoch : Option Num
  waitingHeader : Option HeaderPurpose
  timer : EpochTimer
  policy : Policy
  deriving DecidableEq, Repr

/-! ## Rollback Engine and Recovery Scanner -/

/-- What the replay has under way (R104, R110, R113, R122): nothing, a record being read, a record being restored, or
the completion step. -/
inductive ReplayProgress where
  | between
  | reading (position : Nat) (length : Nat)
  | restoring (header : RecordHeader) (position : Nat)
  | completing
  deriving DecidableEq, Repr

/-- The cursor fields that are set when the state becomes ROLLING_BACK (R104, R107). -/
structure Replay where
  position : Nat
  back : Nat
  span : Num
  bound : Num
  lastApplied : Option Num
  progress : ReplayProgress
  haltRequested : Bool
  deriving DecidableEq, Repr

/-- The rollback cursor (R104). -/
structure RollbackCursor where
  target : Num
  applied : Nat
  replay : Option Replay
  deriving DecidableEq, Repr

/-- Steps of the scan cursor (R133). -/
inductive ScanStep where
  | header | walk | complete
  deriving DecidableEq, Repr

/-- The scan cursor (R133). `copyA` is what copy A's read gave until copy B has been read (R134): present if valid.
`examined` is the record header whose whole record is being read (R136; assumption 14). -/
structure ScanCursor where
  step : ScanStep
  copyA : Option HeaderCopy
  chosen : Option HeaderCopy
  working : List Mark
  workingTail : Nat
  position : Nat
  expected : Num
  lastLength : Nat
  found : Nat
  highest : Num
  examined : Option RecordHeader
  deriving DecidableEq, Repr

/-- The steps for which a maintenance engine makes a memory request (R148, R151). -/
inductive MaintStep where
  | formatCopy (copy : CopyName)
  | attachHeader (copy : CopyName)
  | walkHeader
  | walkRecord
  | recordRead
  | restoreWrite
  deriving DecidableEq, Repr

/-! ## Memory Port -/

/-- A memory request (R148). `enables` is present only for a WRITE from HOST; `data` only for a WRITE. -/
structure MemRequest where
  kind : AccessKind
  address : Num
  length : Nat
  enables : Option (List Bool)
  data : List Byte
  deriving DecidableEq, Repr

/-- A maintenance request that is offered and not yet granted (R151). -/
structure MaintOffer where
  step : MaintStep
  request : MemRequest
  deriving DecidableEq, Repr

/-- The claimants (R151). -/
inductive Claimant where
  | log | maint | capture | host
  deriving DecidableEq, Repr

/-- The owner of an outstanding request (R150). `discarded` is a log stream item discarded at LOG_FAULT (R156); `gone`
an owner removed by a reset (R159). -/
inductive Owner where
  | record (seq : Num)
  | header (generation : Num)
  | discarded
  | maint (step : MaintStep)
  | capture (run : Nat)
  | host (requester : Requester) (tag : Tag)
  | gone
  deriving DecidableEq, Repr

/-- A slot of the outstanding list (R150). -/
structure Outstanding where
  claimant : Claimant
  owner : Owner
  request : MemRequest
  orphan : Bool
  deriving DecidableEq, Repr

/-- Memory Port (R150, R154): the outstanding list in issue order, oldest first, and the host bypass count. -/
structure MemoryPort where
  outstanding : List Outstanding
  bypass : Nat
  deriving DecidableEq, Repr

/-! ## Event Queue -/

/-- Event kinds, in the order of their codes (R204). -/
inductive EventKind where
  | checkpointDone | releaseDone | discardDone | rollbackDone | rollbackHalted | attachDone | attachFailed | formatDone
  | detachDone | epochDropped | epochTimer | logLow | logFull | logFault | poisonCaptured | unrestorable | restoreError
  | recordBad | refused | dataError | faultSeen | faultDropped | checkpointIgnored
  deriving DecidableEq, Repr

/-- Details of ATTACH_FAILED (R204). -/
inductive AttachFailure where
  | write | read | noLog
  deriving DecidableEq, Repr

/-- Details of RECORD_BAD (R112, R204). -/
inductive BadReason where
  | read | code | form | sequence | epoch
  deriving DecidableEq, Repr

/-- Details of DATA_ERROR (R204). -/
inductive DataErrorDetail where
  | malformed | read | write
  deriving DecidableEq, Repr

/-- Details of CKPT_IGNORED (R172). -/
inductive CheckpointSource where
  | line | timer | latch
  deriving DecidableEq, Repr

/-- The detail of an event entry (R171, R204). `header` is the header marker of LOG_FAULT. -/
inductive Detail where
  | absent
  | number (n : Num)
  | attach (found : Nat) (marks : Nat)
  | attachFailure (r : AttachFailure)
  | bad (r : BadReason)
  | refusal (r : RefusalReason)
  | dataError (d : DataErrorDetail)
  | action (a : FaultAction)
  | prevented (e : EngineState)
  | source (c : CheckpointSource)
  | header
  deriving DecidableEq, Repr

/-- An event entry (R171). -/
structure Event where
  kind : EventKind
  epoch : Num
  address : Option Num
  requester : Option Requester
  detail : Detail
  deriving DecidableEq, Repr

/-- Event Queue (R170, R174). Bit k − 1 of the summary stands for the kind with code k (R203). -/
structure EventQueue where
  queue : List Event
  lost : Bool
  summary : BitVec 24
  deriving DecidableEq, Repr

/-! ## Management Link -/

/-- Conditions of the frame receiver (R178). -/
inductive ReceiverCondition where
  | idle | receiving | complete
  deriving DecidableEq, Repr

/-- The frame receiver (R178): the bytes received and the bits of the byte in progress, first bit first. -/
structure Receiver where
  condition : ReceiverCondition
  bytes : List Byte
  bits : List Bool
  deriving DecidableEq, Repr

/-- Reasons of a refused command (R184). -/
inductive CommandRefusal where
  | state | busy | range | overlap | inUse | empty | noLogArea
  deriving DecidableEq, Repr

/-- Statuses of a response (R184). -/
inductive Status where
  | done
  | started
  | refused (reason : CommandRefusal)
  | linkError
  deriving DecidableEq, Repr

/-- A link response (R182): its status and its result bytes. -/
structure Response where
  status : Status
  results : List Byte
  deriving DecidableEq, Repr

/-- Management Link: the frame receiver and the pending response (R178, R183). -/
structure Link where
  receiver : Receiver
  response : Response
  deriving DecidableEq, Repr

/-! ## The whole state -/

/-- The state of the 3140. `pending` is the queue of commands waiting, first in, first out. -/
structure State where
  pending : List Instr
  rstLow : Bool
  host : HostPort
  window : List Entry
  regions : Vector Region 16
  capture : CaptureUnit
  staging : Staging
  stream : List StreamItem
  log : LogController
  rollback : Option RollbackCursor
  scan : Option ScanCursor
  maintOffer : Option MaintOffer
  port : MemoryPort
  events : EventQueue
  link : Link
  deriving DecidableEq, Repr

/-- Reasons a step could stop the machine. The manual gives every command an effect in every state, or says that it
changes nothing, so there is none: no command faults. -/
inductive Fault where
  deriving DecidableEq, Repr

/-- Reasons a command has no meaning. -/
inductive Refusal where
  /-- A command whose meaning is not written yet; raised by `exec` alone. Safe: the model stops. -/
  | notModelled (mnemonic : String)
  deriving DecidableEq, Repr

/-! ## Reset values -/

/-- An invalid Region Table entry, with the values it reads as (R78). -/
def invalidRegion : Region :=
  { valid := false, base := 0, size := 0, mode := .pass, mask := 0 }

/-- Epoch timer held at 0 (R49, R50). -/
def stoppedTimer : EpochTimer :=
  { ticks := 0, counter := 0, fired := false, due := none }

/-- Policies after reset (R195). -/
def resetPolicy : Policy :=
  { logFull := .wait, faultAction := .freeze, holdLimit := 0, threshold := 0, prescaler := 1, reference := 0,
    timerAction := .event }

/-- Log Controller after reset (R146). -/
def resetLog : LogController :=
  { engine := .detached, freeze := false, checkpointLatch := false, faultLatch := false, area := none, marks := [],
    tail := 0, writePos := 0, durableHead := 0, lastLength := 0, nextSeq := 0, nextEpoch := 0, generation := 0,
    reserved := 0, lowSpace := false, logFull := false, reservedEpoch := none, waitingHeader := none,
    timer := stoppedTimer, policy := resetPolicy }

/-- Frame receiver with no frame in progress (R178). -/
def idleReceiver : Receiver :=
  { condition := .idle, bytes := [], bits := [] }

/-- Management Link after reset (R178, R183). -/
def resetLink : Link :=
  { receiver := idleReceiver, response := { status := .done, results := [] } }

/-- The 3140 right after power-on (R146 and the reset statement of each chapter). -/
def State.reset : State :=
  { pending := [], rstLow := false,
    host := { channel := [], offered := none, lastServed := 3 },
    window := [], regions := Vector.replicate 16 invalidRegion,
    capture := { set := [], nextRunId := 0, walkOwed := false },
    staging := { runSlots := [], filler := none },
    stream := [], log := resetLog, rollback := none, scan := none, maintOffer := none,
    port := { outstanding := [], bypass := 0 },
    events := { queue := [], lost := false, summary := 0 },
    link := resetLink }

end Sys2Proof.Machine
end

