-- ==== Sys2Proof/Machine/Formats.lean ====
section
/-! DEFINITION. The byte layouts of the Formats chapter: records, header copies, marks, events, statuses and results
(R200 to R204), each written and, where the part reads it back, parsed. -/

namespace Sys2Proof.Machine

/-! ## Record header (R200) -/

/-- Code of a record kind (R200). The part writes 1 and 2 only. -/
def kindCode : RecordKind → BitVec 2
  | .data => 1
  | .filler => 2
  | .other => 0

/-- Kind of a code read back; 0 and 3 are no kind of record (R200). -/
def kindOfCode (c : BitVec 2) : RecordKind :=
  if c = 1 then .data else if c = 2 then .filler else .other

/-- Byte 12 of a record header: back length, run count, poison (R200). -/
def shapeByte (h : RecordHeader) : Byte :=
  (BitVec.ofBool h.poison) ++ (BitVec.ofNat 3 h.count) ++ (BitVec.ofNat 4 h.back)

/-- Byte 13 of a record header: requester and kind, the unassigned bits zero (R200). -/
def sourceByte (h : RecordHeader) : Byte :=
  0#2 ++ kindCode h.kind ++ 0#2 ++ BitVec.ofNat 2 h.requester.val

/-- Bytes 0 to 13 of a record header, the part its check code covers (R200). -/
def headerMessage (h : RecordHeader) : List Byte :=
  le32 h.seq ++ le32 h.epoch ++ le32 h.first ++ [shapeByte h, sourceByte h]

/-- The 16 bytes of a record header (R200). -/
def headerBytes (h : RecordHeader) : List Byte := headerMessage h ++ le16 h.check

/-- The check code of a record: over its other header fields and its data (R4, R205). A filler has no data. -/
def recordCheck (h : RecordHeader) (data : List Byte) : BitVec 16 := crc16 (headerMessage h ++ data)

/-- The bytes the Log Writer writes for a record: header and data; of a filler the header alone (R3, R17, R200). -/
def Record.bytes (r : Record) : List Byte := headerBytes r.header ++ r.data

/-- The fields of a record header read back from memory (R200). -/
def parseHeader (bytes : List Byte) : RecordHeader :=
  let shape := byteAt bytes 12
  let source := byteAt bytes 13
  { seq := readLe32 bytes 0
    epoch := readLe32 bytes 4
    first := readLe32 bytes 8
    back := (shape.extractLsb' 0 4).toNat
    count := (shape.extractLsb' 4 3).toNat
    poison := shape.getLsbD 7
    requester := (source.extractLsb' 0 2).toFin
    kind := kindOfCode (source.extractLsb' 4 2)
    check := readLe16 bytes 14 }

/-- The unassigned bits of byte 13 are zero (R200). -/
def unassignedClear (bytes : List Byte) : Bool :=
  let source := byteAt bytes 13
  source.extractLsb' 2 2 == 0 && source.extractLsb' 6 2 == 0

/-! ## Header copy and mark entry (R201) -/

/-- A flag as a byte: 0 clear, 1 set (R203). -/
def flagByte (b : Bool) : Byte := if b then 1 else 0

/-- A natural number as a 32-bit number. -/
def num (n : Nat) : Num := BitVec.ofNat 32 n

/-- The 24 bytes of a mark slot (R201). -/
def markBytes (m : Mark) : List Byte :=
  le32 m.epoch ++ le32 m.firstSeq ++ le32 (num m.offset) ++ le32 m.duration ++
    [BitVec.ofNat 8 m.back, flagByte m.recovered] ++ List.replicate 6 0

/-- The eight mark slots: the marks of the list, oldest first, then zeros (R201). -/
def markSlots (marks : List Mark) : List Byte :=
  marks.flatMap markBytes ++ List.replicate (24 * (8 - marks.length)) 0

/-- Bytes 0 to 251 of a header copy, the part its check code covers (R201). -/
def copyMessage (c : HeaderCopy) : List Byte :=
  le32 c.format ++ le32 c.generation ++ le32 c.ringSize ++ le32 c.nextEpoch ++ le32 c.nextSeq ++
    [BitVec.ofNat 8 c.marks.length] ++ List.replicate 11 0 ++ markSlots c.marks ++ List.replicate 28 0

/-- The 256 bytes of a header copy (R201). -/
def copyBytes (c : HeaderCopy) : List Byte := copyMessage c ++ le32 c.check

/-- The mark in slot k of a header copy (R201). Bits 1 to 7 of the flag byte are ignored. -/
def parseMark (bytes : List Byte) (k : Nat) : Mark :=
  let at_ := 32 + 24 * k
  { epoch := readLe32 bytes at_
    firstSeq := readLe32 bytes (at_ + 4)
    offset := (readLe32 bytes (at_ + 8)).toNat
    duration := readLe32 bytes (at_ + 12)
    back := (byteAt bytes (at_ + 16)).toNat
    recovered := (byteAt bytes (at_ + 17)).getLsbD 0 }

/-- The mark count byte of a header copy (R201). -/
def markCountByte (bytes : List Byte) : Nat := (byteAt bytes 20).toNat

/-- The fields of a header copy read back (R201): marks from slots 0 to mark count − 1; with a mark count of 0 or above
8 no slot is read. -/
def parseCopy (bytes : List Byte) : HeaderCopy :=
  let count := markCountByte bytes
  { format := readLe32 bytes 0
    generation := readLe32 bytes 4
    ringSize := readLe32 bytes 8
    nextEpoch := readLe32 bytes 12
    nextSeq := readLe32 bytes 16
    marks := if count ≤ Config.markCapacity then (List.range count).map (parseMark bytes) else []
    check := readLe32 bytes 252 }

/-! ## Codes of R203 and R204 -/

/-- Engine state codes (R203). -/
def engineCode : EngineState → Byte
  | .detached => 0
  | .formatting => 1
  | .scanning => 2
  | .armed => 3
  | .checkpointing => 4
  | .updating => 5
  | .quiescing => 6
  | .rollingBack => 7
  | .halted => 8
  | .logFault => 9
  | .detaching => 10

/-- Region mode codes (R203). -/
def modeCode : RegionMode → Byte
  | .pass => 0
  | .logged => 1

/-- Log-full policy codes (R203). -/
def logFullCode : LogFullPolicy → Byte
  | .wait => 0
  | .recycle => 1

/-- Fault action codes (R203). -/
def faultActionCode : FaultAction → Byte
  | .ignore => 0
  | .freeze => 1
  | .freezeRollback => 2

/-- Timer action codes (R203). -/
def timerActionCode : TimerAction → Byte
  | .event => 0
  | .checkpoint => 1
  | .freeze => 2

/-- Event kind codes (R204). -/
def kindNumber : EventKind → Nat
  | .checkpointDone => 1
  | .releaseDone => 2
  | .discardDone => 3
  | .rollbackDone => 4
  | .rollbackHalted => 5
  | .attachDone => 6
  | .attachFailed => 7
  | .formatDone => 8
  | .detachDone => 9
  | .epochDropped => 10
  | .epochTimer => 11
  | .logLow => 12
  | .logFull => 13
  | .logFault => 14
  | .poisonCaptured => 15
  | .unrestorable => 16
  | .restoreError => 17
  | .recordBad => 18
  | .refused => 19
  | .dataError => 20
  | .faultSeen => 21
  | .faultDropped => 22
  | .checkpointIgnored => 23

/-- The summary bit of an event kind: bit code − 1 (R203). -/
def summaryBit (k : EventKind) : BitVec 24 := BitVec.ofNat 24 (2 ^ (kindNumber k - 1))

/-- Details of ATTACH_FAILED (R204). -/
def attachFailureCode : AttachFailure → Num
  | .write => 1
  | .read => 2
  | .noLog => 3

/-- Details of RECORD_BAD (R204). -/
def badCode : BadReason → Num
  | .read => 1
  | .code => 2
  | .form => 3
  | .sequence => 4
  | .epoch => 5

/-- Details of REFUSED (R204). -/
def refusalCode : RefusalReason → Num
  | .permission => 1
  | .logFault => 2
  | .cancelled => 3
  | .holdTimeout => 4

/-- Details of DATA_ERROR (R204). -/
def dataErrorCode : DataErrorDetail → Num
  | .malformed => 1
  | .read => 2
  | .write => 3

/-- Details of CKPT_IGNORED (R204). -/
def sourceCode : CheckpointSource → Num
  | .line => 1
  | .timer => 2
  | .latch => 3

/-- The detail of an event as POP_EVENT returns it (R204); ATTACH_DONE holds the mark count in bits 24 to 31 and records
found below. -/
def detailNumber : Detail → Num
  | .absent => 0
  | .number n => n
  | .attach found marks => BitVec.ofNat 8 marks ++ BitVec.ofNat 24 found
  | .attachFailure r => attachFailureCode r
  | .bad r => badCode r
  | .refusal r => refusalCode r
  | .dataError d => dataErrorCode d
  | .action a => (faultActionCode a).setWidth 32
  | .prevented e => (engineCode e).setWidth 32
  | .source c => sourceCode c
  | .header => 0

/-- The detail present bit: clear when there is no detail and for the header marker (R204). -/
def detailPresent : Detail → Bool
  | .absent => false
  | .header => false
  | _ => true

/-- The presence byte: address, requester, detail, header marker in bits 0 to 3 (R204). -/
def presenceByte (e : Event) : Byte :=
  0#4 ++ BitVec.ofBool (e.detail == .header) ++ BitVec.ofBool (detailPresent e.detail) ++
    BitVec.ofBool e.requester.isSome ++ BitVec.ofBool e.address.isSome

/-- The 15 result bytes of POP_EVENT (R204). -/
def eventBytes (e : Event) : List Byte :=
  [BitVec.ofNat 8 (kindNumber e.kind), presenceByte e] ++ be32 e.epoch ++ be32 (e.address.getD 0) ++
    [(e.requester.map fun r => BitVec.ofNat 8 r.val).getD 0] ++ be32 (detailNumber e.detail)

/-- Status bytes (R202). -/
def statusByte : Status → Byte
  | .done => 0x01
  | .started => 0x02
  | .linkError => 0x03
  | .refused .state => 0x81
  | .refused .busy => 0x82
  | .refused .range => 0x83
  | .refused .overlap => 0x84
  | .refused .inUse => 0x85
  | .refused .empty => 0x86
  | .refused .noLogArea => 0x87

/-- The bytes the part shifts out for a response: status, result byte count, results and CRC-8 (R182, R202). -/
def Response.bytes (r : Response) : List Byte :=
  let message := statusByte r.status :: BitVec.ofNat 8 r.results.length :: r.results
  message ++ [crc8 message]

/-- What MSDO presents after `n` falling edges of MSCK in a low period of MSCS, the response pending: its bytes from the
first, each most significant bit first, then zeros (R182). -/
def Response.msdo (r : Response) (n : Nat) : Bool := (r.bytes.flatMap byteBits).getD n false

/-- The twelve result bytes of READ_POLICY (R197, R203). -/
def policyBytes (p : Policy) : List Byte :=
  [logFullCode p.logFull, faultActionCode p.faultAction] ++ be16 p.holdLimit ++ [BitVec.ofNat 8 p.threshold] ++
    be16 (BitVec.ofNat 16 p.prescaler) ++ be32 p.reference ++ [timerActionCode p.timerAction]

/-- The eleven result bytes of READ_REGION (R190, R203). -/
def regionBytes (r : Region) : List Byte :=
  [flagByte r.valid, modeCode r.mode, r.mask.setWidth 8] ++ be32 r.base ++ be32 (num r.size)

/-- The eighteen result bytes of READ_MARK (R191, R203). -/
def markResults (m : Mark) : List Byte :=
  be32 m.epoch ++ be32 m.firstSeq ++ be32 (num m.offset) ++ be32 m.duration ++
    [BitVec.ofNat 8 m.back, flagByte m.recovered]

end Sys2Proof.Machine
end

