-- ==== Sys2Proof/Machine/Flags.lean ====
section
/-! DEFINITION. Views and conditions computed from the state: the ring size, used space, the current epoch, the
indications, ATTN, what a window entry, a run or a stream item is, and when a happening is due. -/

namespace Sys2Proof.Machine

/-! ## The log -/

/-- Ring size S: log area size less 512; 0 while the area is unset (R1). -/
def LogController.ringSize (l : LogController) : Nat :=
  match l.area with
  | none => 0
  | some a => a.size - Config.ringOffset

/-- The log base; 0 while the area is unset, when nothing reads it. -/
def LogController.base (l : LogController) : Num :=
  match l.area with
  | none => 0
  | some a => a.base

/-- The memory address of ring position p: log base + 512 + p (R1). -/
def LogController.ringAddress (l : LogController) (p : Nat) : Num := l.base + num (Config.ringOffset + p)

/-- The memory address of a header copy (R1). -/
def LogController.copyAddress (l : LogController) (c : CopyName) : Num :=
  match c with
  | .a => l.base
  | .b => l.base + 256

/-- Used space: (write position − tail) mod S (01, SPACE ACCOUNTING). -/
def LogController.usedSpace (l : LogController) : Nat := ringSub l.ringSize l.writePos l.tail

/-- The mark list as the part reports it: empty throughout SCANNING (R133, R191), also between attach completion, where
the Log Controller takes the list (R140), and the end of ATTACH (assumption 28). -/
def LogController.listedMarks (l : LogController) : List Mark := if l.engine = .scanning then [] else l.marks

/-- The current epoch: the newest mark's epoch number, or 0 while the mark list is empty (R30), as it is reported
throughout SCANNING (R171, R191). -/
def LogController.currentEpoch (l : LogController) : Num :=
  match l.listedMarks.getLast? with
  | none => 0
  | some m => m.epoch

/-- The ring offset of the oldest mark, which the tail always equals; 0 without a mark (R7). -/
def oldestOffset (marks : List Mark) : Nat :=
  match marks with
  | [] => 0
  | m :: _ => m.offset

/-- The low-space threshold in bytes: S × percentage / 100, rounded down (R12). -/
def LogController.thresholdBytes (l : LogController) : Nat := l.ringSize * l.policy.threshold / 100

/-- The space test of R10: used space plus reserved length plus the charge stays at or below S − 16. -/
def LogController.hasSpace (l : LogController) (charge : Nat) : Bool :=
  decide (l.usedSpace + l.reserved + charge + 16 ≤ l.ringSize)

/-- The states in which the log works: captures are decided and granted (R53, R74). -/
def EngineState.logs : EngineState → Bool
  | .armed => true
  | .checkpointing => true
  | .updating => true
  | _ => false

/-- The states of a rollback in flight: logged accesses go to HELD (R85, R87). -/
def EngineState.rollsBack : EngineState → Bool
  | .quiescing => true
  | .rollingBack => true
  | .halted => true
  | _ => false

/-- The states in which the epoch timer is held at 0 and window entries take tag 0 (R31, R50). -/
def EngineState.unattached : EngineState → Bool
  | .detached => true
  | .formatting => true
  | .scanning => true
  | _ => false

/-- A long operation is in flight (R32). -/
def EngineState.busy : EngineState → Bool
  | .detached => false
  | .armed => false
  | .logFault => false
  | _ => true

/-! ## The log stream -/

/-- The stream item is a header write. -/
def StreamItem.isHeader (i : StreamItem) : Bool :=
  match i.body with
  | .header _ _ => true
  | .record _ => false

/-- The record of a stream item, if it is one. -/
def StreamItem.record? (i : StreamItem) : Option Record :=
  match i.body with
  | .record r => some r
  | .header _ _ => none

/-- The number of header writes in the stream (R16). -/
def headerWrites (stream : List StreamItem) : Nat := (stream.filter StreamItem.isHeader).length

/-- The stream has room for one more header write (R16, R37, R206). -/
def headerRoom (stream : List StreamItem) : Bool := decide (headerWrites stream < Config.headerWriteCapacity)

/-- The records in the stream, in sequence order. -/
def streamRecords (stream : List StreamItem) : List Record := stream.filterMap StreamItem.record?

/-- A record is persisted exactly when its number is below that of the oldest record still in the stream (R18). -/
def isPersisted (stream : List StreamItem) (seq : Num) : Bool :=
  match streamRecords stream with
  | [] => true
  | oldest :: _ => below seq oldest.header.seq

/-! ## Runs -/

/-- Length of the data record of n granules (R2). -/
def recordLength (n : Nat) : Nat := 16 + 32 * n

/-- Length of the record of a run. -/
def Run.length (r : Run) : Nat := recordLength r.count

/-- The charge of a run: its record and the largest filler it could need (R11). -/
def Run.charge (r : Run) : Nat := r.length + (r.length - 16)

/-- The run waits for a slot and space (R63). -/
def Run.waiting (r : Run) : Bool :=
  match r.condition with
  | .pending => true
  | .stalled => true
  | _ => false

/-- The run is stalled (R62). -/
def Run.isStalled (r : Run) : Bool := r.condition == .stalled

/-- The run's capture read is outstanding for its entry: granted and not returned (R62). -/
def Run.isReading (r : Run) : Bool :=
  match r.condition with
  | .reading _ => true
  | _ => false

/-- The run is deferred (R36). -/
def Run.isDeferred (r : Run) : Bool :=
  match r.condition with
  | .deferred _ _ => true
  | _ => false

/-- The run is abandoned (R62). -/
def Run.isAbandoned (r : Run) : Bool := r.condition == .abandoned

/-- The run holds a reservation (R62). -/
def Run.reserves (r : Run) : Bool := r.isReading || r.isDeferred

/-- The run gives up its slot at once when its capture is abandoned: its read is not issued, or has returned (R70). -/
def Run.freesSlot (r : Run) : Bool :=
  match r.condition with
  | .reading false => true
  | .deferred _ _ => true
  | _ => false

/-- The run is still to be recorded (R60). -/
def Run.unrecorded (r : Run) : Bool := r.waiting || r.reserves

/-- The granule addresses of a run. -/
def Run.granules (r : Run) : List Num := (List.range r.count).map fun k => r.first + num (32 * k)

/-! ## Window entries -/

/-- The entry is DONE. -/
def Entry.isDone (e : Entry) : Bool :=
  match e.phase with
  | .done _ _ => true
  | _ => false

/-- The entry is HELD. -/
def Entry.isHeld (e : Entry) : Bool :=
  match e.phase with
  | .held _ _ => true
  | _ => false

/-- The entry is HELD for a cause (R94). -/
def Entry.heldFor (e : Entry) (cause : HoldCause) : Bool :=
  match e.phase with
  | .held c _ => c == cause
  | _ => false

/-- The entry's snapshot has mode LOGGED (R79). -/
def Entry.isLogged (e : Entry) : Bool :=
  match e.snapshot with
  | some snap => snap.mode == .logged
  | none => false

/-- The entry is a WRITE. -/
def Entry.isWrite (e : Entry) : Bool := e.kind == .write

/-- A logged write (R79). -/
def Entry.isLoggedWrite (e : Entry) : Bool := e.isLogged && e.isWrite

/-- A logged read (R79). -/
def Entry.isLoggedRead (e : Entry) : Bool := e.isLogged && !e.isWrite

/-- The entry has committed its captures: AWAIT_RECORD, READY, ISSUED or DONE (R31). -/
def Entry.committed (e : Entry) : Bool :=
  match e.phase with
  | .awaitRecord => true
  | .ready => true
  | .issued => true
  | .done _ _ => true
  | _ => false

/-- The entry is READY. -/
def Entry.isReady (e : Entry) : Bool := e.phase == .ready

/-- The entry is in ORDERED. -/
def Entry.isOrdered (e : Entry) : Bool := e.phase == .ordered

/-- The wait list is empty (R61). -/
def WaitList.isEmpty (w : WaitList) : Bool := w.hit.isNone && w.own.isNone

/-- The entry is in capture: it has a run that is reading, deferred or abandoned, or its wait list is not empty (R81). -/
def Entry.inCapture (e : Entry) : Bool :=
  e.runs.any (fun r => r.isReading || r.isDeferred || r.isAbandoned) || !e.waits.isEmpty

/-- The entry is the one of a requester and tag; at most one is (R76). -/
def Entry.hasKey (e : Entry) (requester : Requester) (tag : Tag) : Bool := e.requester == requester && e.tag == tag

/-- Two entries' granule sets overlap (R86). -/
def Entry.overlaps (e o : Entry) : Bool := e.granules.any fun g => o.granules.contains g

/-- No older entry short of DONE overlaps the entry, unless both are reads (R86). -/
def hazardClear (older : List Entry) (e : Entry) : Bool :=
  older.all fun o => o.isDone || !e.overlaps o || (!o.isWrite && !e.isWrite)

/-- The oldest entry in ORDERED that passes the hazard test against the entries before it (R86). DESIGN CHOICE
(assumption 29): where one happening frees several entries, R86 does not say which leaves first. -/
def nextToLeave : List Entry → List Entry → Option Entry
  | _, [] => none
  | older, e :: rest => if e.isOrdered && hazardClear older e then some e else nextToLeave (older ++ [e]) rest

/-- The hold timer of an entry has reached its non-zero limit (R95). -/
def Entry.expired (e : Entry) : Bool :=
  match e.phase with
  | .held _ timer => timer.limit != 0 && decide (timer.limit ≤ timer.elapsed)
  | _ => false

/-! ## The state -/

/-- ATTN is asserted exactly while the Event Queue holds an entry (R170, R176). -/
def State.attn (s : State) : Bool := !s.events.queue.isEmpty

/-- Staging occupancy: the slots that are not free (R67). -/
def State.stagingOccupancy (s : State) : Nat :=
  s.staging.runSlots.length + (if s.staging.filler.isSome then 1 else 0)

/-- The Staging Buffer is empty: all eight slots are free (R68). -/
def State.stagingEmpty (s : State) : Bool := s.staging.runSlots.isEmpty && s.staging.filler.isNone

/-- The Region Table entry that contains an address: its index and contents (R79). -/
def State.lookupRegion (s : State) (address : Num) : Option (Fin 16 × Region) :=
  (List.finRange 16).findSome? fun i =>
    let r := s.regions[i]
    if r.valid && decide (r.base.toNat ≤ address.toNat ∧ address.toNat < r.base.toNat + r.size) then some (i, r)
    else none

/-- The entry of a requester and tag. -/
def State.findEntry (s : State) (requester : Requester) (tag : Tag) : Option Entry :=
  s.window.find? fun e => e.hasKey requester tag

/-- The run of an identity, with its entry. -/
def State.findRun (s : State) (id : Nat) : Option (Entry × Run) :=
  s.window.findSome? fun e => (e.runs.find? fun r => r.id == id).map fun r => (e, r)

/-- A requester's response is deliverable: its oldest entry is DONE (R99). -/
def State.deliverable (s : State) (r : Requester) : Bool :=
  match s.window.find? fun e => e.requester == r with
  | some e => e.isDone
  | none => false

/-- The order in which the delivery arbiter looks at the requesters (R100). -/
def deliveryOrder (lastServed : Requester) : List Requester :=
  [lastServed + 1, lastServed + 2, lastServed + 3, lastServed]

/-- A window entry tagged with the closing epoch has a capture read outstanding (R37). -/
def State.closingReadOutstanding (s : State) : Bool :=
  s.window.any fun e => e.epoch == s.log.currentEpoch && e.runs.any Run.isReading

/-- The boundary of the checkpoint is due: its reserved epoch number (R37). -/
def State.boundaryDue (s : State) : Option Num :=
  if s.log.engine == .checkpointing && !s.closingReadOutstanding && headerRoom s.stream then s.log.reservedEpoch
  else none

/-- QUIESCING may be left for ROLLING_BACK (R107). -/
def State.quiesceDue (s : State) : Bool :=
  s.log.engine == .quiescing && s.stagingEmpty && s.stream.isEmpty &&
    !s.window.any fun e => e.isLogged && (e.phase == .awaitRecord || e.phase == .ready || e.phase == .issued)

/-- DETACHING may be left for DETACHED (R144). -/
def State.detachDue (s : State) : Bool :=
  s.log.engine == .detaching && s.stagingEmpty && s.stream.isEmpty

/-- The response the part offers on the host port's response channel (R77, R100). -/
structure HostResponse where
  requester : Requester
  tag : Tag
  result : HostResult
  data : List Byte
  deriving DecidableEq, Repr

/-- The response of a DONE entry (R77). -/
def Entry.response? (e : Entry) : Option HostResponse :=
  match e.phase with
  | .done result data => some { requester := e.requester, tag := e.tag, result := result, data := data }
  | _ => none

/-- The response offered on the response channel: that of the chosen requester's oldest entry (R100). -/
def State.offeredResponse (s : State) : Option HostResponse :=
  match s.host.offered with
  | none => none
  | some r => (s.window.find? fun e => e.requester == r).bind Entry.response?

end Sys2Proof.Machine
end

