-- ==== Sys2Proof/Machine/Ops.lean ====
section
/-! DEFINITION. The named operations over the blocks that every meaning is built from: replacing a block, posting an event,
the arbiters' bookkeeping, refusing and abandoning window entries, hold timers, the epoch timer's restart, and the
management link's answer. -/

namespace Sys2Proof.Machine

/-! ## Replacing one block -/

/-- The state with another command queue. -/
def State.withPending (s : State) (p : List Instr) : State := { s with pending := p }

/-- The state with another RST level. -/
def State.withRst (s : State) (low : Bool) : State := { s with rstLow := low }

/-- The state with another Host Port. -/
def State.withHost (s : State) (h : HostPort) : State := { s with host := h }

/-- The state with another Transaction Window. -/
def State.withWindow (s : State) (w : List Entry) : State := { s with window := w }

/-- The state with another Region Table. -/
def State.withRegions (s : State) (r : Vector Region 16) : State := { s with regions := r }

/-- The state with another Capture Unit. -/
def State.withCapture (s : State) (c : CaptureUnit) : State := { s with capture := c }

/-- The state with another Staging Buffer. -/
def State.withStaging (s : State) (b : Staging) : State := { s with staging := b }

/-- The state with another log stream. -/
def State.withStream (s : State) (l : List StreamItem) : State := { s with stream := l }

/-- The state with another Log Controller. -/
def State.withLog (s : State) (l : LogController) : State := { s with log := l }

/-- The state with another rollback cursor. -/
def State.withRollback (s : State) (c : Option RollbackCursor) : State := { s with rollback := c }

/-- The state with another scan cursor. -/
def State.withScan (s : State) (c : Option ScanCursor) : State := { s with scan := c }

/-- The state with another offered maintenance request. -/
def State.withMaint (s : State) (m : Option MaintOffer) : State := { s with maintOffer := m }

/-- The state with another Memory Port. -/
def State.withPort (s : State) (p : MemoryPort) : State := { s with port := p }

/-- The state with another Event Queue. -/
def State.withEvents (s : State) (q : EventQueue) : State := { s with events := q }

/-- The state with another Management Link. -/
def State.withLink (s : State) (l : Link) : State := { s with link := l }

/-! ## Changing one block -/

/-- The Log Controller changed. -/
def State.modLog (s : State) (f : LogController → LogController) : State := s.withLog (f s.log)

/-- The Capture Unit changed. -/
def State.modCapture (s : State) (f : CaptureUnit → CaptureUnit) : State := s.withCapture (f s.capture)

/-- The Staging Buffer changed. -/
def State.modStaging (s : State) (f : Staging → Staging) : State := s.withStaging (f s.staging)

/-- The log stream changed. -/
def State.modStream (s : State) (f : List StreamItem → List StreamItem) : State := s.withStream (f s.stream)

/-- The Memory Port changed. -/
def State.modPort (s : State) (f : MemoryPort → MemoryPort) : State := s.withPort (f s.port)

/-- The Host Port changed. -/
def State.modHost (s : State) (f : HostPort → HostPort) : State := s.withHost (f s.host)

/-- The Event Queue changed. -/
def State.modEvents (s : State) (f : EventQueue → EventQueue) : State := s.withEvents (f s.events)

/-! ## Events (R170, R171) -/

/-- One posting at the Event Queue: appended if there is room, else dropped with the lost flag set; the kind joins the
summary either way (R170). -/
def EventQueue.post (q : EventQueue) (e : Event) : EventQueue :=
  let room := decide (q.queue.length < Config.eventCapacity)
  { queue := if room then q.queue ++ [e] else q.queue
    lost := q.lost || !room
    summary := q.summary ||| summaryBit e.kind }

/-- Post an event; it carries the current epoch of this moment (R30, R171). -/
def State.post (s : State) (kind : EventKind) (address : Option Num) (requester : Option Requester) (detail : Detail) :
    State :=
  s.withEvents (s.events.post
    { kind := kind, epoch := s.log.currentEpoch, address := address, requester := requester, detail := detail })

/-- Post an event with no address and no requester. -/
def State.report (s : State) (kind : EventKind) (detail : Detail) : State := s.post kind none none detail

/-- Post the REFUSED event of an entry (R98). -/
def State.postRefused (s : State) (reason : RefusalReason) (e : Entry) : State :=
  s.post .refused (some e.address) (some e.requester) (.refusal reason)

/-- Set the engine state. -/
def State.setEngine (s : State) (engine : EngineState) : State := s.modLog fun l => { l with engine := engine }

/-! ## Signals to the Capture Unit -/

/-- "Space freed" (R13), a freed slot, or a run become pending: a walk falls due (R63; assumption 11). -/
def State.oweWalk (s : State) : State := s.modCapture fun c => { c with walkOwed := true }

/-- A walk falls due if the condition holds. -/
def State.oweWalkIf (s : State) (condition : Bool) : State := if condition then s.oweWalk else s

/-- The low-space indication set or cleared. -/
def State.setLowSpace (s : State) (low : Bool) : State := s.modLog fun l => { l with lowSpace := low }

/-- The low-space comparison (R12). With percentage 0 the mechanism is disabled and the indication stays clear
(assumption 8). -/
def State.compareLowSpace (s : State) : State :=
  if s.log.policy.threshold = 0 then s.setLowSpace false
  else if s.log.thresholdBytes < s.log.usedSpace then
    if s.log.lowSpace then s else (s.setLowSpace true).report .logLow (.number (num s.log.usedSpace))
  else s.setLowSpace false

/-! ## The arbiters' bookkeeping -/

/-- The host bypass count returns to 0 when the HOST claimant ceases to offer any request (R154). -/
def State.checkHostOffer (s : State) : State :=
  if s.window.any Entry.isReady then s else s.modPort fun p => { p with bypass := 0 }

/-- When the response channel is free the delivery arbiter chooses a requester with a deliverable response, if there is
one (R100; assumption 7). -/
def State.offerResponse (s : State) : State :=
  match s.host.offered with
  | some _ => s
  | none => s.withHost { s.host with offered := (deliveryOrder s.host.lastServed).find? s.deliverable }

/-- What follows at the ports when window entries have changed phase. -/
def State.refreshPorts (s : State) : State := s.checkHostOffer.offerResponse

/-! ## Window entries -/

/-- A hold timer started now: elapsed 0, the hold limit in force as its limit (R94). -/
def State.newTimer (s : State) : HoldTimer := { elapsed := 0, limit := s.log.policy.holdLimit.toNat }

/-- An empty wait list. -/
def noWaits : WaitList := { hit := none, own := none }

/-- Change the window entries that satisfy a condition. -/
def State.mapEntries (s : State) (p : Entry → Bool) (f : Entry → Entry) : State :=
  s.withWindow (s.window.map fun e => if p e then f e else e)

/-- Change the entry of a requester and tag. -/
def State.updateEntry (s : State) (requester : Requester) (tag : Tag) (f : Entry → Entry) : State :=
  s.mapEntries (fun e => e.hasKey requester tag) f

/-- The entry in another phase. -/
def Entry.toPhase (e : Entry) (phase : Phase) : Entry := { e with phase := phase }

/-- The entry HELD for a cause, its timer started (R94). -/
def Entry.hold (e : Entry) (cause : HoldCause) (timer : HoldTimer) : Entry := e.toPhase (.held cause timer)

/-- The entry DONE with a result: its wait list goes (R61), and its byte mask and data are not kept (R84). -/
def Entry.finish (e : Entry) (result : HostResult) (data : List Byte) : Entry :=
  { e with phase := .done result data, waits := noWaits, payload := [] }

/-- The runs an entry keeps when its capture is abandoned: issued reads become abandoned and stay listed with the entry,
the others go (R70, R71). -/
def abandonRuns (runs : List Run) : List Run :=
  runs.filterMap fun r =>
    match r.condition with
    | .reading true => some { r with condition := .abandoned }
    | .abandoned => some r
    | _ => none

/-- The reservations an entry's runs hold (R62). -/
def Entry.reservation (e : Entry) : Nat := ((e.runs.filter Run.reserves).map Run.charge).sum

/-- The identities of the entry's runs whose slots are freed at once (R70). -/
def Entry.freedRuns (e : Entry) : List Nat := (e.runs.filter Run.freesSlot).map Run.id

/-- The entry with its capture abandoned (R70). -/
def Entry.abandon (e : Entry) : Entry := { e with runs := abandonRuns e.runs }

/-- The reservations a list of entries holds. -/
def reservations (entries : List Entry) : Nat := (entries.map Entry.reservation).sum

/-- The run slots of the given runs freed. -/
def Staging.freeRuns (b : Staging) (ids : List Nat) : Staging :=
  { b with
    runSlots := b.runSlots.filter fun slot =>
      match slot with
      | .run id => !ids.contains id
      | .record _ => true }

/-- The REFUSED events of entries, in window order (R98). -/
def State.postRefusals (s : State) (reason : RefusalReason) (entries : List Entry) : State :=
  entries.foldl (fun s e => s.postRefused reason e) s

/-- Abandon the captures of the entries that satisfy a condition (R69, R70): their reservations are cancelled, the slots
of runs not issued or deferred are freed, issued reads become abandoned. A cancellation signals "space freed". -/
def State.abandonCaptures (s : State) (p : Entry → Bool) : State :=
  let cancelled := reservations (s.window.filter p)
  let freed := (s.window.filter p).flatMap Entry.freedRuns
  (((s.mapEntries p Entry.abandon).modLog fun l => { l with reserved := l.reserved - cancelled }).modStaging fun b =>
    b.freeRuns freed).oweWalkIf (cancelled != 0)

/-- Refuse the window entries that satisfy a condition: their captures are abandoned, they become DONE with REFUSED, and
a REFUSED event is posted for each in window order (R98). The condition looks at no run. -/
def State.refuseEntries (s : State) (p : Entry → Bool) (reason : RefusalReason) : State :=
  ((s.abandonCaptures p).mapEntries p fun e => e.finish .refused []).postRefusals reason (s.window.filter p)

/-- Entries HELD for a cause return to ORDERED, their timers dropped (R93, R97). -/
def State.releaseHolds (s : State) (cause : HoldCause) : State :=
  s.mapEntries (fun e => e.heldFor cause) fun e => e.toPhase .ordered

/-- The restart of an uncommitted entry's capture, and its new tag (R39, R47): a read or an unlogged write takes the tag
only; a logged write has its wait list emptied and returns to ORDERED, unless it is HELD by the freeze flag. -/
def Entry.restart (e : Entry) (epoch : Num) : Entry :=
  if e.isLoggedWrite then
    if e.heldFor .freeze then { e with epoch := epoch, waits := noWaits }
    else { e with epoch := epoch, waits := noWaits, phase := .ordered }
  else { e with epoch := epoch }

/-! ## Epoch timer -/

/-- A restart of the epoch timer: tick count and counter 0, fired indication clear (R51). -/
def State.restartTimer (s : State) : State := s.modLog fun l => { l with timer := stoppedTimer }

/-! ## Memory Port -/

/-- The response fits the request it answers: an OKAY READ brings the bytes of the span, and a WRITE brings none
(R149; assumption 19). -/
def responseFits (request : MemRequest) (response : MemResponse) : Bool :=
  match response with
  | .error => true
  | .okay data =>
    match request.kind with
    | .read => data.length == request.length
    | .write => data.isEmpty

/-- The response to the oldest outstanding request is taken: its slot is freed (R155). -/
def State.freeSlot (s : State) : State := s.modPort fun p => { p with outstanding := p.outstanding.tail }

/-- The oldest outstanding request, unless it is an orphan (R150, R159). -/
def State.oldestRequest (s : State) : Option Outstanding :=
  match s.port.outstanding with
  | [] => none
  | o :: _ => if o.orphan then none else some o

/-- The response answers the oldest outstanding request, made for the given maintenance step (R150, R155). -/
def State.answersMaint (s : State) (step : MaintStep) (response : MemResponse) : Bool :=
  match s.oldestRequest with
  | some o => o.owner == .maint step && responseFits o.request response
  | none => false

/-- A maintenance READ (R151). -/
def readRequest (address : Num) (length : Nat) : MemRequest :=
  { kind := .read, address := address, length := length, enables := none, data := [] }

/-- A WRITE of the part's own: no byte enables, every byte written (R148). -/
def writeRequest (address : Num) (data : List Byte) : MemRequest :=
  { kind := .write, address := address, length := data.length, enables := none, data := data }

/-- Offer the one request of a maintenance step (R151). -/
def State.offerMaint (s : State) (step : MaintStep) (request : MemRequest) : State :=
  s.withMaint (some { step := step, request := request })

/-! ## Management Link -/

/-- The pending response becomes a status with results; the frame receiver is IDLE again (R180, R181, R183). -/
def State.respond (s : State) (status : Status) (results : List Byte) : State :=
  s.withLink { receiver := idleReceiver, response := { status := status, results := results } }

/-- The command is refused: it changes nothing but the pending response (R184). -/
def State.refuse (s : State) (reason : CommandRefusal) : State := s.respond (.refused reason) []

/-- A link frame is taken, unless RST is held low (R146, R181). -/
def State.onFrame (s : State) (take : State → State) : State := if s.rstLow then s else take s

/-- The refusal of a command that would start a long operation and is not accepted in this state: BUSY while one is in
flight, else STATE (R32, R188). -/
def EngineState.startRefusal (e : EngineState) : CommandRefusal := if e.busy then .busy else .state

end Sys2Proof.Machine
end

