-- ==== Sys2Proof/Machine/LogOps.lean ====
section
/-! DEFINITION. The operations of the Log Controller, the Log Writer and the Capture Unit: header writes, record creation,
the Capture Set, the capture decision and the walk, dropping marks, the checkpoint boundary, a record's persistence, entry
into LOG_FAULT, and what a return to ARMED sets going. -/

namespace Sys2Proof.Machine

/-! ## Header writes -/

/-- The header copy that describes the log as it stands, with a generation (R20). -/
def LogController.headerCopy (l : LogController) (generation : Num) : HeaderCopy :=
  let copy : HeaderCopy :=
    { format := 1, generation := generation, ringSize := num l.ringSize, nextEpoch := l.nextEpoch, nextSeq := l.nextSeq,
      marks := l.marks, check := 0 }
  { copy with check := crc32 (copyMessage copy) }

/-- The copy a header write goes to: A for an odd generation, B for an even one (R21). -/
def copyOfGeneration (generation : Num) : CopyName := if generation.getLsbD 0 then .a else .b

/-- The queued header write with the next generation (R16, R21). -/
def LogController.headerItem (l : LogController) (purpose : HeaderPurpose) : StreamItem :=
  { body := .header purpose (l.headerCopy (l.generation + 1)), issued := false }

/-- Place a header write behind every item of the stream, with the next generation and its contents taken now (R16, R20,
R21). DESIGN CHOICE (assumption 30): past 4 294 967 295 the generation counter goes to 0; R21 states no overflow. -/
def State.placeHeader (s : State) (purpose : HeaderPurpose) : State :=
  (s.modStream fun items => items ++ [s.log.headerItem purpose]).modLog fun l => { l with generation := l.generation + 1 }

/-- Ask for a header write: placed at once if the stream has room, else left waiting (R16). -/
def State.askHeader (s : State) (purpose : HeaderPurpose) : State :=
  if headerRoom s.stream then s.placeHeader purpose
  else s.modLog fun l => { l with waitingHeader := some purpose }

/-! ## Marks -/

/-- Drop the oldest marks until `n` are gone; the tail moves to the mark that is then oldest (R7, R28). -/
def State.dropMarks (s : State) (n : Nat) : State :=
  s.modLog fun l => { l with marks := l.marks.drop n, tail := oldestOffset (l.marks.drop n) }

/-- The oldest mark's epoch number; 0 without a mark. -/
def oldestEpoch (marks : List Mark) : Num :=
  match marks with
  | [] => 0
  | m :: _ => m.epoch

/-! ## The Capture Set (R55, R56) -/

/-- Put a Capture Set entry in place for a granule: an entry it already has is removed; a full Set loses its oldest; the
new entry is appended as newest (R56). -/
def insertCapture (set : List CaptureEntry) (granule : Num) (seq : Num) : List CaptureEntry :=
  let others := set.filter fun c => c.granule != granule
  let room := if others.length < Config.captureSetCapacity then others else others.tail
  room ++ [{ granule := granule, seq := seq }]

/-- Put entries in place for the granules of a record, in granule address order (R56). -/
def insertRun (set : List CaptureEntry) (granules : List Num) (seq : Num) : List CaptureEntry :=
  granules.foldl (fun set g => insertCapture set g seq) set

/-- Clear the Capture Set (R57). -/
def State.clearCaptureSet (s : State) : State := s.modCapture fun c => { c with set := [] }

/-! ## Wait lists (R61) -/

/-- Add a number of one kind, keeping the greater (R61). -/
def keepGreater (held : Option Num) (seq : Num) : Option Num :=
  match held with
  | none => some seq
  | some h => some (larger h seq)

/-- Remove a persisted sequence number from a wait list (R18). -/
def WaitList.remove (w : WaitList) (seq : Num) : WaitList :=
  { hit := if w.hit = some seq then none else w.hit
    own := if w.own = some seq then none else w.own }

/-! ## Record creation (R2 to R6, R65) -/

/-- A record header with its check code (R4). -/
def sealHeader (h : RecordHeader) (data : List Byte) : RecordHeader := { h with check := recordCheck h data }

/-- The filler a data record of length `L` needs at the write position, if any (R3, R5). -/
def LogController.filler (l : LogController) (L : Nat) (epoch : Num) (requester : Requester) : Option Record :=
  let space := l.ringSize - l.writePos
  if space < L then
    let header : RecordHeader :=
      { seq := l.nextSeq, epoch := epoch, first := 0, back := l.lastLength, count := 0, poison := false,
        requester := requester, kind := .filler, check := 0 }
    some { header := sealHeader header [], data := [], position := l.writePos, length := space }
  else none

/-- The data record of a run at the write position (R2, R5). -/
def LogController.dataRecord (l : LogController) (run : Run) (epoch : Num) (requester : Requester) (poison : Bool)
    (data : List Byte) : Record :=
  let header : RecordHeader :=
    { seq := l.nextSeq, epoch := epoch, first := run.first, back := l.lastLength, count := run.count, poison := poison,
      requester := requester, kind := .data, check := 0 }
  { header := sealHeader header data, data := data, position := l.writePos, length := run.length }

/-- Next sequence, write position and last length past a record (R5, R6). -/
def LogController.advance (l : LogController) (r : Record) : LogController :=
  { l with
    nextSeq := l.nextSeq + 1
    writePos := ringAdd l.ringSize r.position r.length
    lastLength := r.length / 16 }

/-- A record takes next sequence, the write position and last length advance past it (R5, R6), and it is placed in the
stream (R16). -/
def State.appendRecord (s : State) (r : Record) : State :=
  (s.modStream fun items => items ++ [{ body := .record r, issued := false }]).modLog fun l => l.advance r

/-- The filler, if one is needed, created in the filler slot (R5, R65, R67). -/
def State.appendFiller (s : State) (f : Option Record) : State :=
  match f with
  | none => s
  | some r => (s.appendRecord r).modStaging fun b => { b with filler := some r.header.seq }

/-- The ring space a filler takes. -/
def fillerLength (f : Option Record) : Nat :=
  match f with
  | none => 0
  | some r => r.length

/-- The entry after one of its runs was recorded with a sequence number: the own wait, the run recorded, and the move to
AWAIT_RECORD after its last run (R60, R61, R65). -/
def Entry.recordRun (e : Entry) (id : Nat) (seq : Num) : Entry :=
  let runs := e.runs.map fun r => if r.id = id then { r with condition := .recorded } else r
  let e := { e with runs := runs, waits := { e.waits with own := keepGreater e.waits.own seq } }
  if runs.any Run.unrecorded then e else e.toPhase .awaitRecord

/-- The data of a record: what the read returned, or zeros for a poisoned one (R2, R66). -/
def recordData (count : Nat) (poison : Bool) (data : List Byte) : List Byte :=
  if poison then List.replicate (32 * count) 0 else data

/-- The slot of a run holds its record (R65 step 3). -/
def Staging.fillSlot (b : Staging) (id : Nat) (seq : Num) : Staging :=
  { b with runSlots := b.runSlots.map fun slot => if slot = .run id then .record seq else slot }

/-- POISON_CAPTURED, if the record is poisoned (R66). -/
def State.postPoison (s : State) (h : RecordHeader) : State :=
  if h.poison then s.post .poisonCaptured (some h.first) (some h.requester) (.number h.seq) else s

/-- The data record of a run enters the log (R65 steps 3 to 7): the stream, its slot, the reservation, the low-space
comparison, the Capture Set, the own wait, and POISON_CAPTURED. `taken` is the ring space its filler took. -/
def State.enterRecord (s : State) (e : Entry) (run : Run) (r : Record) (taken : Nat) : State :=
  (((((((s.appendRecord r).modStaging fun b => b.fillSlot run.id r.header.seq).modLog fun l =>
    { l with reserved := l.reserved - run.charge }).oweWalkIf (decide (taken + run.length < run.charge))).compareLowSpace).modCapture
      fun c => { c with set := insertRun c.set run.granules r.header.seq }).updateEntry e.requester e.tag fun e =>
        e.recordRun run.id r.header.seq).postPoison r.header

/-- Create the record of a run of an entry, in one step (R65, R66): the filler where one is needed, the data record, its
slot, the reservation, the low-space comparison, the Capture Set, the own wait, and POISON_CAPTURED for a poisoned one. -/
def State.createRecord (s : State) (e : Entry) (run : Run) (poison : Bool) (data : List Byte) : State :=
  let f := s.log.filler run.length e.epoch e.requester
  let l := (s.appendFiller f).log
  (s.appendFiller f).enterRecord e run (l.dataRecord run e.epoch e.requester poison (recordData run.count poison data))
    (fillerLength f)

/-! ## The capture decision (R58 to R60) -/

/-- The sequence number a Capture Set lookup finds for a granule (R58). -/
def State.lookupCapture (s : State) (granule : Num) : Option Num :=
  (s.capture.set.find? fun c => c.granule == granule).map CaptureEntry.seq

/-- Before the boundary, a write tagged with the reserved epoch treats every granule as a miss (R36). -/
def State.missesAll (s : State) (e : Entry) : Bool := s.log.reservedEpoch == some e.epoch

/-- The granules of an entry that miss (R58). -/
def State.missedGranules (s : State) (e : Entry) : List Num :=
  e.granules.filter fun g => s.missesAll e || (s.lookupCapture g).isNone

/-- The hit wait of an entry: the newest unpersisted record a hit names (R58, R61). -/
def State.hitWait (s : State) (e : Entry) : Option Num :=
  if s.missesAll e then none
  else (e.granules.filterMap s.lookupCapture).foldl
    (fun held seq => if isPersisted s.stream seq then held else keepGreater held seq) none

/-- Group missed granules, lowest first, into maximal runs of consecutive addresses, as first granule and count (R59). -/
def groupRuns : List Num → List (Num × Nat)
  | [] => []
  | g :: rest =>
    match groupRuns rest with
    | [] => [(g, 1)]
    | (first, count) :: more => if first = g + 32 then (g, count + 1) :: more else (g, 1) :: (first, count) :: more

/-- The pending runs formed at a decision, numbered from `id` (R59, R62). -/
def formRuns (id : Nat) (groups : List (Num × Nat)) : List Run :=
  groups.mapIdx fun k group => { id := id + k, first := group.1, count := group.2, condition := .pending }

/-- The phase a capture decision sends an entry to (R60). -/
def decisionPhase (runs : List Run) (hit : Option Num) : Phase :=
  if !runs.isEmpty then .capturing else if hit.isSome then .awaitRecord else .ready

/-- The entry after its capture decision formed runs and found a hit wait (R60). -/
def Entry.decide (e : Entry) (runs : List Run) (hit : Option Num) : Entry :=
  { e with phase := decisionPhase runs hit, waits := { hit := hit, own := none }, runs := e.runs ++ runs }

/-- The capture decision of an entry (R58 to R60). A run formed here makes a walk fall due (R63). -/
def State.decideCapture (s : State) (e : Entry) : State :=
  let groups := groupRuns (s.missedGranules e)
  let hit := s.hitWait e
  let runs := formRuns s.capture.nextRunId groups
  (s.updateEntry e.requester e.tag fun e => e.decide runs hit).modCapture fun c =>
    { c with nextRunId := c.nextRunId + groups.length, walkOwed := c.walkOwed || !groups.isEmpty }

/-! ## The walk (R63) -/

/-- A RECYCLE release is allowed (R15, R206). -/
def State.recycleAllowed (s : State) : Bool :=
  s.log.policy.logFull == .recycle && s.log.engine == .armed && decide (1 < s.log.marks.length) && headerRoom s.stream

/-- A RECYCLE release (R15, R206): the oldest mark dropped, the low-space comparison, a header write, EPOCH_DROPPED, "space
freed". The refused run asks again at once, and the signal makes another walk due (R74). -/
def State.recycleRelease (s : State) : State :=
  ((((s.dropMarks 1).compareLowSpace).placeHeader .recycle).report .epochDropped
    (.number (oldestEpoch s.log.marks))).oweWalk

/-- A run's condition changed, in its entry. -/
def Entry.setRun (e : Entry) (id : Nat) (condition : RunCondition) : Entry :=
  { e with runs := e.runs.map fun r => if r.id = id then { r with condition := condition } else r }

/-- The entry after a run of it was granted: without another stalled run it leaves a SPACE hold for CAPTURING (R63). -/
def Entry.grant (e : Entry) (id : Nat) : Entry :=
  if e.heldFor .space && !(e.setRun id (.reading false)).runs.any Run.isStalled then
    (e.setRun id (.reading false)).toPhase .capturing
  else e.setRun id (.reading false)

/-- LOG_FULL, if the indication was clear, and the indication set (R13). -/
def State.postLogFull (s : State) (e : Entry) (run : Run) : State :=
  if s.log.logFull then s
  else (s.modLog fun l => { l with logFull := true }).post .logFull (some run.first) (some e.requester)
    (.number (num run.charge))

/-- A granted request (R11, R13, R63): the charge reserved, a run slot taken, the run reading, the log-full indication
clear; an entry without another stalled run leaves a SPACE hold for CAPTURING. -/
def State.grantRun (s : State) (e : Entry) (run : Run) : State :=
  ((s.modLog fun l => { l with reserved := l.reserved + run.charge, logFull := false }).modStaging fun b =>
    { b with runSlots := b.runSlots ++ [.run run.id] }).updateEntry e.requester e.tag fun e => e.grant run.id

/-- A refused request handled as under WAIT (R13, R14, R63): LOG_FULL if the indication was clear; a pending run becomes
stalled and its entry HELD with its timer started; a stalled run stays as it is. -/
def State.stallRun (s : State) (e : Entry) (run : Run) : State :=
  if run.isStalled then s.postLogFull e run
  else (s.postLogFull e run).updateEntry e.requester e.tag fun e => (e.setRun run.id .stalled).hold .space s.newTimer

/-- A space request of a run (R10, R11, R15, R63), releasing at most `releases` marks under RECYCLE; whether it was
granted. -/
def State.requestSpace (s : State) (e : Entry) (run : Run) (releases : Nat) : State × Bool :=
  if s.log.hasSpace run.charge then (s.grantRun e run, true)
  else
    match releases with
    | 0 => (s.stallRun e run, false)
    | n + 1 =>
      if s.recycleAllowed then s.recycleRelease.requestSpace e run n else (s.stallRun e run, false)

/-- The walk over one entry's runs (R63): each waiting run in run order asks, as long as a run slot is free, up to the
first that is not granted. -/
def State.walkRuns (s : State) (requester : Requester) (tag : Tag) (runs : Nat) : State :=
  match runs with
  | 0 => s
  | n + 1 =>
    if Config.runSlotCount ≤ s.staging.runSlots.length then s
    else
      match s.findEntry requester tag with
      | none => s
      | some e =>
        match e.runs.find? Run.waiting with
        | none => s
        | some run =>
          match s.requestSpace e run s.log.marks.length with
          | (s, true) => s.walkRuns requester tag n
          | (s, false) => s

/-- A walk over the waiting runs, in window order (R63). Outside ARMED, CHECKPOINTING and UPDATING it grants nothing
(R74). It answers the signals made before it; a RECYCLE release made in it signals anew. -/
def State.walk (s : State) : State :=
  let answered := s.modCapture fun c => { c with walkOwed := false }
  if s.log.engine.logs then
    (s.window.map fun e => (e.requester, e.tag, e.runs.length)).foldl (fun s k => s.walkRuns k.1 k.2.1 k.2.2) answered
  else answered

/-! ## Persistence of a record (R18) -/

/-- The entry after a record persisted (R18, R61). -/
def Entry.persisted (e : Entry) (seq : Num) : Entry :=
  let e := { e with waits := e.waits.remove seq }
  if e.phase = .awaitRecord ∧ e.waits.isEmpty then e.toPhase .ready else e

/-- The staging slot of a record freed (R68). -/
def Staging.freeRecord (b : Staging) (seq : Num) : Staging :=
  { runSlots := b.runSlots.filter fun slot => slot != .record seq
    filler := if b.filler = some seq then none else b.filler }

/-- The stream item is the record of a sequence number. -/
def StreamItem.isRecord (i : StreamItem) (seq : Num) : Bool :=
  match i.body with
  | .record r => r.header.seq == seq
  | .header _ _ => false

/-- The stream item is the header write of a generation. -/
def StreamItem.isHeaderWrite (i : StreamItem) (generation : Num) : Bool :=
  match i.body with
  | .record _ => false
  | .header _ copy => copy.generation == generation

/-- A record persists (R18). -/
def State.persistRecord (s : State) (r : Record) : State :=
  ((((s.modStream fun items => items.filter fun i => !i.isRecord r.header.seq).modStaging fun b =>
    b.freeRecord r.header.seq).modLog fun l => { l with durableHead := ringAdd l.ringSize r.position r.length }).mapEntries
      (fun _ => true) fun e => e.persisted r.header.seq).oweWalk

/-! ## Accepting a checkpoint and a rollback -/

/-- Acceptance of a checkpoint (R35). -/
def State.acceptCheckpoint (s : State) : State :=
  s.modLog fun l =>
    { l with engine := .checkpointing, reservedEpoch := some l.nextEpoch, nextEpoch := l.nextEpoch + 1 }

/-- The mark a depth names, counted back from the newest (R103). -/
def markAtDepth (marks : List Mark) (depth : Nat) : Option Mark := marks.reverse[depth]?

/-- The logged writes a rollback's acceptance cancels (R105). -/
def Entry.cancelledByRollback (e : Entry) : Bool :=
  e.isLoggedWrite && (e.isOrdered || e.isHeld || e.phase == .capturing || e.isReady)

/-- The logged reads a rollback's acceptance holds (R105). -/
def Entry.heldByRollback (e : Entry) : Bool := e.isLoggedRead && (e.isOrdered || e.isReady)

/-- Acceptance of a rollback to a target mark (R104, R105). -/
def State.acceptRollback (s : State) (target : Mark) : State :=
  ((((s.setEngine .quiescing).withRollback (some { target := target.epoch, applied := 0, replay := none })).mapEntries
    Entry.heldByRollback fun e => e.hold .rollback s.newTimer).refuseEntries Entry.cancelledByRollback
      .cancelled).refreshPorts

/-- Acceptance of a rollback of depth 0, asked for by FAULT (R163, R165); without a mark there is nothing to target. -/
def State.acceptFaultRollback (s : State) : State :=
  match s.log.marks.getLast? with
  | none => s
  | some m => s.acceptRollback m

/-! ## A return to ARMED -/

/-- The latched fault set or cleared (R164). -/
def State.setFaultLatch (s : State) (set : Bool) : State := s.modLog fun l => { l with faultLatch := set }

/-- The pending-checkpoint latch set or cleared (R43). -/
def State.setCheckpointLatch (s : State) (set : Bool) : State := s.modLog fun l => { l with checkpointLatch := set }

/-- A set pending-checkpoint latch is cleared with CKPT_IGNORED (R25, R33). -/
def State.dropCheckpointLatch (s : State) : State :=
  if s.log.checkpointLatch then (s.setCheckpointLatch false).report .checkpointIgnored (.source .latch) else s

/-- A set latched fault is cleared with FAULT_DROPPED (R25, R166). -/
def State.dropFaultLatch (s : State) (prevented : EngineState) : State :=
  if s.log.faultLatch then (s.setFaultLatch false).report .faultDropped (.prevented prevented) else s

/-- The Log Controller acts on its latches at a return to ARMED (R33). -/
def State.actOnLatches (s : State) : State :=
  if s.log.faultLatch then ((s.setFaultLatch false).acceptFaultRollback).dropCheckpointLatch
  else if s.log.checkpointLatch then (s.setCheckpointLatch false).acceptCheckpoint
  else s

/-- Logging begins: logged writes in ORDERED or READY are cancelled (R92). -/
def State.cancelAtLoggingStart (s : State) : State :=
  (s.refuseEntries (fun e => e.isLoggedWrite && (e.isOrdered || e.isReady)) .cancelled).refreshPorts

/-! ## The checkpoint boundary (R38, R39) -/

/-- The closing mark's duration takes the timer's count (R38 step 1). -/
def closeNewest (marks : List Mark) (duration : Num) : List Mark :=
  match marks.getLast? with
  | none => []
  | some m => marks.dropLast ++ [{ m with duration := duration }]

/-- A new mark at the write position, with an epoch number (R38 step 3, R47 step 3). -/
def LogController.newMark (l : LogController) (epoch : Num) : Mark :=
  { epoch := epoch, firstSeq := l.nextSeq, offset := l.writePos, back := l.lastLength, duration := 0, recovered := false }

/-- Room for a new mark at the boundary: with 8 marks the oldest is dropped, EPOCH_DROPPED posted, low space compared and
"space freed" signalled (R38 step 2). -/
def State.dropForBoundary (s : State) : State :=
  if Config.markCapacity ≤ s.log.marks.length then
    (((s.dropMarks 1).report .epochDropped (.number (oldestEpoch s.log.marks))).compareLowSpace).oweWalk
  else s

/-- Append a mark; the first mark of an empty list sets the tail (R7, R28). -/
def LogController.appendMark (l : LogController) (m : Mark) : LogController :=
  let marks := l.marks ++ [m]
  { l with marks := marks, tail := oldestOffset marks }

/-- The deferred runs in the order their capture reads returned, which is the order of grant (R39, R64). -/
def State.deferredRuns (s : State) : List Nat :=
  s.staging.runSlots.filterMap fun slot =>
    match slot with
    | .run id => if (s.findRun id).any fun p => p.2.isDeferred then some id else none
    | .record _ => none

/-- A deferred run is created as a record (R39). -/
def State.createDeferred (s : State) (id : Nat) : State :=
  match s.findRun id with
  | some (e, run) =>
    match run.condition with
    | .deferred poison data => s.createRecord e run poison data
    | _ => s
  | none => s

/-- The uncommitted entries tagged with an epoch (R39). -/
def Entry.uncommittedIn (e : Entry) (epoch : Num) : Bool := e.epoch == epoch && !e.committed

/-- The closing mark takes its duration (R38 step 1). -/
def State.closeMark (s : State) : State := s.modLog fun l => { l with marks := closeNewest l.marks l.timer.counter }

/-- The new mark is appended with the reserved epoch number (R38 step 3). -/
def State.openMark (s : State) (reserved : Num) : State :=
  s.modLog fun l => { l.appendMark (l.newMark reserved) with reservedEpoch := none }

/-- Every deferred run is created as a record, in order (R39). -/
def State.createAllDeferred (s : State) : State := s.deferredRuns.foldl State.createDeferred s

/-- The boundary of a checkpoint with its reserved epoch number (R38, R39). -/
def State.boundary (s : State) (reserved : Num) : State :=
  let closing := s.log.currentEpoch
  ((((((s.closeMark).dropForBoundary).openMark reserved).clearCaptureSet.restartTimer.placeHeader .checkpoint).abandonCaptures
    fun e => e.uncommittedIn closing && e.isLoggedWrite).mapEntries (fun e => e.uncommittedIn closing) fun e =>
      e.restart reserved).createAllDeferred

/-! ## Entry into LOG_FAULT (R22 to R25) -/

/-- The stream from the failed item on: what is discarded (R22). -/
def discardedItems (stream : List StreamItem) (failed : StreamItem → Bool) : List StreamItem :=
  stream.dropWhile fun i => !failed i

/-- The memory address an item of the stream is written to (R17). -/
def LogController.itemAddress (l : LogController) (i : StreamItem) : Num :=
  match i.body with
  | .record r => l.ringAddress r.position
  | .header _ copy => l.copyAddress (copyOfGeneration copy.generation)

/-- The detail of the LOG_FAULT event: the record's sequence number, or the header marker (R25). -/
def StreamItem.faultDetail (i : StreamItem) : Detail :=
  match i.body with
  | .record r => .number r.header.seq
  | .header _ _ => .header

/-- An outstanding request of a discarded item stays in its slot; its response will be ignored (R22, R156). -/
def Outstanding.discardIf (o : Outstanding) (items : List StreamItem) : Outstanding :=
  let hit :=
    match o.owner with
    | .record seq => items.any fun i => i.isRecord seq
    | .header generation => items.any fun i => i.isHeaderWrite generation
    | _ => false
  if hit then { o with owner := .discarded } else o

/-- The logged writes refused at entry into LOG_FAULT: those not yet READY, ISSUED or DONE, and those READY when the entry
is from SCANNING or DETACHING (R24). -/
def Entry.refusedByLogFault (engine : EngineState) (e : Entry) : Bool :=
  e.isLoggedWrite &&
    (!(e.isReady || e.phase == .issued || e.isDone) || (e.isReady && (engine == .scanning || engine == .detaching)))

/-- Write position and last length return to the oldest discarded record (R23). -/
def LogController.rewind (l : LogController) (records : List Record) : LogController :=
  match records with
  | [] => l
  | r :: _ => { l with writePos := r.position, lastLength := r.header.back }

/-- The latches at entry into LOG_FAULT (R25). -/
def State.dropLatches (s : State) : State :=
  s.dropCheckpointLatch.dropFaultLatch .logFault

/-- The staging slots of records freed (R22). -/
def Staging.freeRecords (b : Staging) (records : List Record) : Staging :=
  records.foldl (fun b r => b.freeRecord r.header.seq) b

/-- The operation in flight ends in LOG_FAULT (R25). -/
def State.endInLogFault (s : State) : State :=
  ((((s.modLog fun l => { l with engine := .logFault, reservedEpoch := none, waitingHeader := none }).withRollback
    none).withScan none).withMaint none)

/-- The LOG_FAULT event of an item (R25). -/
def State.postLogFault (s : State) (item : StreamItem) : State :=
  s.post .logFault (some (s.log.itemAddress item)) none item.faultDetail

/-- The stream truncated at the failed item, and everything the discarded items held freed (R22). -/
def State.truncateStream (s : State) (failed : StreamItem → Bool) : State :=
  let discarded := discardedItems s.stream failed
  (((s.modStream fun items => items.takeWhile fun i => !failed i).modPort fun p =>
    { p with outstanding := p.outstanding.map fun o => o.discardIf discarded }).modStaging fun b =>
      b.freeRecords (streamRecords discarded)).modLog fun l => l.rewind (streamRecords discarded)

/-- Entry into LOG_FAULT at an ERROR on an item of the stream (R22 to R25). The operation in flight ends; the accesses
HELD by a rollback are released (R93). -/
def State.enterLogFault (s : State) (item : StreamItem) (failed : StreamItem → Bool) : State :=
  (((((((((s.truncateStream failed).clearCaptureSet).endInLogFault).postLogFault item).refuseEntries
    (Entry.refusedByLogFault s.log.engine) .logFault).modLog fun l => { l with reserved := 0 }).releaseHolds
      .rollback).compareLowSpace).dropLatches.oweWalk).refreshPorts

end Sys2Proof.Machine
end

