-- ==== Sys2Proof/Machine/RollbackOps.lean ====
section
/-! DEFINITION. The operations of the Rollback Engine: taking the next record, its checks, restoring it, moving back over
it, halting, and the completion step (R107 to R122). -/

namespace Sys2Proof.Machine

/-- What the comparison series of R109 finds, with the span mark, the bound and last applied it leaves: a record lies
before the position in the span mark's epoch, or the replay is complete. -/
structure ReplayNext where
  complete : Bool
  span : Num
  bound : Num
  last : Option Num
  deriving DecidableEq, Repr

/-- The comparison series of R109, over the marks from the span mark on, newest first. -/
def compareMarks (target : Num) (position : Nat) (bound : Num) (last : Option Num) : List Mark → Option ReplayNext
  | [] => none
  | m :: older =>
    if position ≠ m.offset then some { complete := false, span := m.epoch, bound := bound, last := last }
    else if m.epoch = target then some { complete := true, span := m.epoch, bound := bound, last := last }
    else compareMarks target position m.firstSeq none older

/-- The marks from an epoch's mark on, newest first. -/
def marksFrom (marks : List Mark) (epoch : Num) : List Mark := marks.reverse.dropWhile fun m => m.epoch != epoch

/-- The mark list after a rollback's completion (R122 steps 1 to 3): the marks newer than the target removed, the target
with next sequence as its first sequence, duration 0 and RECOVERED clear. -/
def completeMarks (marks : List Mark) (target : Num) (nextSeq : Num) : List Mark :=
  match marksFrom marks target with
  | [] => []
  | m :: older => older.reverse ++ [{ m with firstSeq := nextSeq, duration := 0, recovered := false }]

/-- The completion step (R122): the mark list, the Capture Set cleared, the timer restarted, newer tags lowered to the
target, the header write placed. Halt requested is cleared without effect (R118). -/
def State.completeRollback (s : State) (cursor : RollbackCursor) (replay : Replay) : State :=
  (((((s.modLog fun l => { l with marks := completeMarks l.marks cursor.target l.nextSeq }).clearCaptureSet).restartTimer).mapEntries
    (fun e => below cursor.target e.epoch) fun e => { e with epoch := cursor.target }).withRollback
      (some { cursor with replay := some { replay with progress := .completing, haltRequested := false } })).askHeader
        .rollback

/-- HALTED with no record in progress and halt requested clear (R112, R118). -/
def State.standHalted (s : State) (cursor : RollbackCursor) (replay : Replay) : State :=
  (s.setEngine .halted).withRollback
    (some { cursor with replay := some { replay with progress := .between, haltRequested := false } })

/-- A record read failed or a record is bad (R112): HALTED, RECORD_BAD with the memory address of the record, the record
no longer in progress, halt requested cleared. -/
def State.recordBad (s : State) (cursor : RollbackCursor) (replay : Replay) (position : Nat) (reason : BadReason) : State :=
  (s.standHalted cursor replay).post .recordBad (some (s.log.ringAddress position)) none (.bad reason)

/-- The ring position of the record just before a position (R110). -/
def recordBefore (S position back : Nat) : Nat := ringSub S position (16 * back)

/-- Read the next record (R110): its READ is offered and it becomes the record in progress; a back length of 0 is no
record (assumption 24). DESIGN CHOICE (assumption 31): RECORD_BAD then names the ring address where the record of length 0
would lie, the cursor position's, for R112 gives the address of the record read and none is read. -/
def State.readRecord (s : State) (cursor : RollbackCursor) (replay : Replay) : State :=
  let position := recordBefore s.log.ringSize replay.position replay.back
  let length := 16 * replay.back
  if replay.back = 0 then s.recordBad cursor replay position .form
  else
    (s.withRollback (some { cursor with replay := some { replay with progress := .reading position length } })).offerMaint
      .recordRead (readRequest (s.log.ringAddress position) length)

/-- Take the next record, or complete (R109). The cursor keeps the span mark, bound and last applied of the comparison
series in either case. -/
def State.advanceReplay (s : State) (cursor : RollbackCursor) (replay : Replay) : State :=
  match compareMarks cursor.target replay.position replay.bound replay.lastApplied
      (marksFrom s.log.marks replay.span) with
  | none => s
  | some next =>
    let crossed := { replay with span := next.span, bound := next.bound, lastApplied := next.last }
    if next.complete then s.completeRollback cursor crossed else s.readRecord cursor crossed

/-- Entry to ROLLING_BACK from QUIESCING: the cursor is set (R107) and the replay begins. -/
def State.startReplay (s : State) (cursor : RollbackCursor) : State :=
  let replay : Replay :=
    { position := s.log.durableHead, back := s.log.lastLength, span := s.log.currentEpoch, bound := s.log.nextSeq,
      lastApplied := none, progress := .between, haltRequested := false }
  (s.setEngine .rollingBack).advanceReplay { cursor with replay := some replay } replay

/-- The replay stops between records in HALTED, with ROLLBACK_HALTED (R118). -/
def State.haltReplay (s : State) (cursor : RollbackCursor) (replay : Replay) : State :=
  (s.standHalted cursor replay).report .rollbackHalted (.number (num cursor.applied))

/-- The target mark's ring offset. -/
def targetOffset (marks : List Mark) (target : Num) : Option Nat :=
  (marks.find? fun m => m.epoch == target).map Mark.offset

/-- The pointers move back over a record (R117). -/
def State.moveLog (s : State) (h : RecordHeader) (position : Nat) : State :=
  (s.modLog fun l =>
    { l with durableHead := position, writePos := position, lastLength := h.back }).compareLowSpace.oweWalk

/-- The replay fields of the cursor after a record was moved back over (R117). -/
def Replay.moved (replay : Replay) (h : RecordHeader) (position : Nat) : Replay :=
  { replay with position := position, back := h.back, lastApplied := some h.seq, progress := .between }

/-- The cursor after a record was moved back over (R117). -/
def RollbackCursor.moved (cursor : RollbackCursor) (replay : Replay) (h : RecordHeader) (position : Nat) :
    RollbackCursor :=
  { cursor with applied := cursor.applied + 1, replay := some (replay.moved h position) }

/-- After a record: the replay halts if that was asked for and the target's offset is not reached (R118), or goes on
(R109). -/
def State.goOn (s : State) (cursor : RollbackCursor) (replay : Replay) : State :=
  if replay.haltRequested && targetOffset s.log.marks cursor.target != some replay.position then
    s.haltReplay cursor replay
  else (s.withRollback (some cursor)).advanceReplay cursor replay

/-- Move back over a record (R117): durable head, write position, last length and cursor; the low-space comparison and
"space freed". Then the replay halts if that was asked for and the target's offset is not reached, or goes on (R118,
R109). -/
def State.moveBack (s : State) (cursor : RollbackCursor) (replay : Replay) (h : RecordHeader) (position : Nat) : State :=
  (s.moveLog h position).goOn (cursor.moved replay h position) (replay.moved h position)

/-! ## The record checks (R111) -/

/-- The bytes the check code of a record read back covers: header bytes 0 to 13, and for DATA its data (R4, R200;
assumption 13). -/
def checkedMessage (h : RecordHeader) (bytes : List Byte) : List Byte :=
  match h.kind with
  | .data => bytes.take 14 ++ (bytes.drop 16).take (32 * h.count)
  | _ => bytes.take 14

/-- The code check (R111). A kind that is neither DATA nor FILLER has no check code and is left to the form check
(R200; assumption 13). -/
def codeRight (h : RecordHeader) (bytes : List Byte) : Bool :=
  h.kind == .other || crc16 (checkedMessage h bytes) == h.check

/-- A run is placed as a data record's must be: aligned to 32, within one 128-byte block, no byte in the log area (R111,
R137). -/
def LogController.granulesFit (l : LogController) (first : Num) (count : Nat) : Bool :=
  let a := first.toNat
  decide (a % 32 = 0) && decide (a % Config.blockBytes + 32 * count ≤ Config.blockBytes) &&
    match l.area with
    | none => true
    | some area => decide (a + 32 * count ≤ area.base.toNat ∨ area.base.toNat + area.size ≤ a)

/-- The form check (R111, R200): `length` is 16 times the cursor's back length and `end_` its position. -/
def LogController.formRight (l : LogController) (h : RecordHeader) (clear : Bool) (span : Mark) (end_ length : Nat) :
    Bool :=
  let between := decide (length ≤ ringSub l.ringSize end_ span.offset)
  clear && between &&
    match h.kind with
    | .data => decide (1 ≤ h.count) && decide (h.count ≤ 4) && decide (length = recordLength h.count) &&
        l.granulesFit h.first h.count
    | .filler => decide (h.count = 0) && !h.poison && decide (end_ = 0)
    | .other => false

/-- The sequence check (R111). -/
def sequenceRight (replay : Replay) (h : RecordHeader) (span : Mark) (position : Nat) : Bool :=
  (match replay.lastApplied with
    | some last => h.seq == last - 1
    | none => below h.seq replay.bound && !below h.seq span.firstSeq) &&
    (position != span.offset || h.seq == span.firstSeq)

/-- The checks of R111 in their order: the reason of the first that fails, or none for a usable record. -/
def LogController.checkRecord (l : LogController) (replay : Replay) (span : Mark) (position length : Nat)
    (bytes : List Byte) : Option BadReason :=
  let h := parseHeader bytes
  if !codeRight h bytes then some .code
  else if !l.formRight h (unassignedClear bytes) span replay.position length then some .form
  else if !sequenceRight replay h span position then some .sequence
  else if h.epoch != span.epoch then some .epoch
  else none

/-- A usable record (R113 to R115): a restore write is offered, or the record is passed over as poisoned or filler. -/
def State.applyRecord (s : State) (cursor : RollbackCursor) (replay : Replay) (h : RecordHeader) (position : Nat)
    (bytes : List Byte) : State :=
  match h.kind with
  | .data =>
    if h.poison then
      (s.post .unrestorable (some h.first) (some h.requester) (.number h.seq)).moveBack cursor replay h position
    else
      (s.withRollback (some { cursor with replay := some { replay with progress := .restoring h position } })).offerMaint
        .restoreWrite (writeRequest h.first ((bytes.drop 16).take (32 * h.count)))
  | _ => s.moveBack cursor replay h position

/-- The read of the record in progress returned OKAY (R111). -/
def State.recordRead (s : State) (cursor : RollbackCursor) (replay : Replay) (position length : Nat) (bytes : List Byte) :
    State :=
  match s.log.marks.find? fun m => m.epoch == replay.span with
  | none => s
  | some span =>
    match s.log.checkRecord replay span position length bytes with
    | some reason => s.recordBad cursor replay position reason
    | none => s.applyRecord cursor replay (parseHeader bytes) position bytes

/-- The restore write of the record in progress returned (R113, R116). -/
def State.restored (s : State) (cursor : RollbackCursor) (replay : Replay) (h : RecordHeader) (position : Nat)
    (result : WriteResult) : State :=
  match result with
  | .okay => s.moveBack cursor replay h position
  | .error =>
    (s.post .restoreError (some h.first) (some h.requester) (.number h.seq)).moveBack cursor replay h position

end Sys2Proof.Machine
end

