-- ==== Sys2Proof/Machine/AttachOps.lean ====
section
/-! DEFINITION. The operations of FORMAT, ATTACH and DETACH: taking up a log, the header choice, the record walk, attach
completion, and giving the log up (R129 to R145). -/

namespace Sys2Proof.Machine

/-! ## Giving the log up -/

/-- The Log Controller's values of DETACH completion (R145 steps 3 to 7). -/
def LogController.giveUp (l : LogController) : LogController :=
  { l with
    marks := [], tail := 0, writePos := 0, durableHead := 0, lastLength := 0, nextSeq := 0, nextEpoch := 0,
    generation := 0, reserved := 0, lowSpace := false, logFull := false, timer := stoppedTimer }

/-- A latched fault dropped in DETACHED (R166). -/
def State.dropFaultDetached (s : State) : State := s.dropFaultLatch .detached

/-! ## FORMAT -/

/-- The 256-byte WRITE of a header copy with a generation, outside the stream (R131). -/
def LogController.formatRequest (l : LogController) (copy : CopyName) (generation : Num) : MemRequest :=
  writeRequest (l.copyAddress copy) (copyBytes (l.headerCopy generation))

/-- The values FORMAT sets at acceptance (R130). -/
def LogController.formatted (l : LogController) : LogController :=
  { l with
    engine := .formatting, nextEpoch := 2, nextSeq := 1,
    marks := [{ epoch := 1, firstSeq := 1, offset := 0, back := 0, duration := 0, recovered := false }],
    tail := 0, writePos := 0, durableHead := 0, lastLength := 0, reserved := 0, generation := 1, lowSpace := false,
    logFull := false, timer := stoppedTimer }

/-- Acceptance of FORMAT: copy B is written first, with generation 0 (R130, R131). -/
def State.acceptFormat (s : State) : State :=
  (s.modLog LogController.formatted).offerMaint (.formatCopy .b) (s.log.formatted.formatRequest .b 0)

/-- A return to ARMED ends, in the same step, with a walk in the state the latches have left (R33, R207). -/
def State.finishArmed (s : State) : State := s.actOnLatches.walk

/-- FORMAT ends after copy A (R131). -/
def State.finishFormat (s : State) : State :=
  ((s.report .formatDone .absent).setEngine .armed).cancelAtLoggingStart.finishArmed

/-- FORMAT fails at a copy (R132). -/
def State.failFormat (s : State) (copy : CopyName) : State :=
  (((s.post .attachFailed (some (s.log.copyAddress copy)) none (.attachFailure .write)).modLog
    LogController.giveUp).setEngine .detached).dropFaultDetached

/-! ## ATTACH: the header step (R133 to R135) -/

/-- The scan cursor when ATTACH is accepted (R133). -/
def openScan : ScanCursor :=
  { step := .header, copyA := none, chosen := none, working := [], workingTail := 0, position := 0, expected := 0,
    lastLength := 0, found := 0, highest := 0, examined := none }

/-- The READ of a header copy (R134). -/
def LogController.copyRead (l : LogController) (copy : CopyName) : MemRequest := readRequest (l.copyAddress copy) 256

/-- Acceptance of ATTACH (R133, R134). -/
def State.acceptAttach (s : State) : State :=
  (((s.setEngine .scanning).restartTimer).withScan (some openScan)).offerMaint (.attachHeader .a) (s.log.copyRead .a)

/-- Epoch numbers strictly increase from oldest to newest (R134). -/
def epochsIncrease : List Mark → Bool
  | [] => true
  | [_] => true
  | a :: b :: rest => below a.epoch b.epoch && epochsIncrease (b :: rest)

/-- The fields of a header copy are valid for copy A or B and a ring of `S` bytes (R134). -/
def copyFieldsValid (S : Nat) (name : CopyName) (count : Nat) (c : HeaderCopy) : Bool :=
  c.format == 1 && c.ringSize == num S && decide (1 ≤ count) && decide (count ≤ Config.markCapacity) &&
    epochsIncrease c.marks &&
    c.marks.all (fun m => decide (m.offset % 16 = 0 ∧ m.offset < S ∧ m.back ≤ 9)) &&
    copyOfGeneration c.generation == name

/-- The copy read, if it is valid (R134, R201). -/
def validCopy (S : Nat) (name : CopyName) (bytes : List Byte) : Option HeaderCopy :=
  let c := parseCopy bytes
  if crc32 (bytes.take 252) = c.check ∧ copyFieldsValid S name (markCountByte bytes) c then some c else none

/-- The choice between the copies: the higher generation, copy A if they are equal, the only valid one, or none (R135). -/
def chooseCopy (a b : Option HeaderCopy) : Option HeaderCopy :=
  match a, b with
  | some a, some b => if a.generation.toNat < b.generation.toNat then some b else some a
  | some a, none => some a
  | none, b => b

/-- ATTACH fails in the header step (R141). -/
def State.failAttach (s : State) (address : Option Num) (reason : AttachFailure) : State :=
  (((s.post .attachFailed address none (.attachFailure reason)).withScan none).setEngine .detached).dropFaultDetached

/-! ## ATTACH: the walk (R136 to R139) -/

/-- Read the record header at the cursor position (R136 step 1). -/
def State.readWalkHeader (s : State) (c : ScanCursor) : State :=
  (s.withScan (some { c with step := .walk, examined := none })).offerMaint .walkHeader
    (readRequest (s.log.ringAddress c.position) 16)

/-- The walk starts from the newest mark of the chosen copy (R135). -/
def State.startWalk (s : State) (chosen : HeaderCopy) : State :=
  match chosen.marks.getLast? with
  | none => s
  | some newest =>
    s.readWalkHeader
      { step := .walk, copyA := none, chosen := some chosen, working := chosen.marks,
        workingTail := oldestOffset chosen.marks, position := newest.offset, expected := newest.firstSeq,
        lastLength := newest.back, found := 0, highest := newest.epoch, examined := none }

/-- The epoch number of the working list's newest mark. -/
def newestEpoch (marks : List Mark) : Num :=
  match marks.getLast? with
  | none => 0
  | some m => m.epoch

/-- The ring length of a record examined at position p: a filler reaches the ring end (R138). -/
def walkLength (S p : Nat) (h : RecordHeader) : Nat :=
  match h.kind with
  | .data => recordLength h.count
  | _ => S - p

/-- The kind, placement and granule tests of R137. -/
def LogController.walkShape (l : LogController) (p : Nat) (h : RecordHeader) : Bool :=
  match h.kind with
  | .data => decide (1 ≤ h.count) && decide (h.count ≤ 4) && decide (p + recordLength h.count ≤ l.ringSize) &&
      l.granulesFit h.first h.count
  | .filler => decide (h.count = 0) && !h.poison && h.first == 0 && decide (l.ringSize - p ≤ 128)
  | .other => false

/-- The header tests of R137; `clear` says that the unassigned bits are zero (R200). -/
def LogController.walkTests (l : LogController) (c : ScanCursor) (h : RecordHeader) (clear : Bool) : Bool :=
  h.seq == c.expected && !below h.epoch (newestEpoch c.working) && decide (h.back = c.lastLength) && clear &&
    l.walkShape c.position h &&
    decide (ringSub l.ringSize c.position c.workingTail + walkLength l.ringSize c.position h + 16 ≤ l.ringSize)

/-- Append a mark to a working list, dropping its oldest first if it holds 8; the list, its working tail and the dropped
epoch (R139, R140). -/
def appendWorking (working : List Mark) (m : Mark) : List Mark × Option Num :=
  if Config.markCapacity ≤ working.length then (working.drop 1 ++ [m], some (oldestEpoch working))
  else (working ++ [m], none)

/-- The mark rebuilt for a record of a new epoch (R139). -/
def rebuiltMark (h : RecordHeader) (position : Nat) : Mark :=
  { epoch := h.epoch, firstSeq := h.seq, offset := position, back := h.back, duration := 0, recovered := true }

/-- Post EPOCH_DROPPED for a dropped mark, if one was dropped. -/
def State.postDropped (s : State) (dropped : Option Num) : State :=
  match dropped with
  | none => s
  | some epoch => s.report .epochDropped (.number epoch)

/-- The working list after an accepted record: a mark is rebuilt for a new epoch (R138, R139). -/
def extendWorking (working : List Mark) (h : RecordHeader) (position : Nat) : List Mark × Option Num :=
  if below (newestEpoch working) h.epoch then appendWorking working (rebuiltMark h position) else (working, none)

/-- The scan cursor past an accepted record (R138). -/
def ScanCursor.accepted (c : ScanCursor) (S : Nat) (h : RecordHeader) : ScanCursor :=
  let length := walkLength S c.position h
  let working := (extendWorking c.working h c.position).1
  { c with
    working := working
    workingTail := oldestOffset working
    found := c.found + 1
    highest := larger c.highest h.epoch
    expected := c.expected + 1
    lastLength := length / 16
    position := ringAdd S c.position length
    examined := none }

/-- A record is accepted in the walk, and the next one is examined (R138). -/
def State.acceptWalked (s : State) (c : ScanCursor) (h : RecordHeader) : State :=
  (s.postDropped (extendWorking c.working h c.position).2).readWalkHeader (c.accepted s.log.ringSize h)

/-! ## ATTACH: completion (R140, R141) -/

/-- The numbering floors, and the resumption mark where one is needed (R140): next sequence, next epoch, the list and the
epoch dropped for the mark. -/
def attachFloors (c : ScanCursor) (chosen : HeaderCopy) : Num × Num × List Mark × Option Num :=
  let nextSeq := larger c.expected chosen.nextSeq
  let nextEpoch := larger chosen.nextEpoch (c.highest + 1)
  if below c.expected chosen.nextSeq then
    let m : Mark :=
      { epoch := nextEpoch, firstSeq := nextSeq, offset := c.position, back := c.lastLength, duration := 0,
        recovered := false }
    let extended := appendWorking c.working m
    (nextSeq, nextEpoch + 1, extended.1, extended.2)
  else (nextSeq, nextEpoch, c.working, none)

/-- The Log Controller takes the results of the scan (R140). -/
def LogController.takeLog (l : LogController) (c : ScanCursor) (chosen : HeaderCopy) : LogController :=
  let floors := attachFloors c chosen
  { l with
    nextSeq := floors.1, nextEpoch := floors.2.1, marks := floors.2.2.1, tail := oldestOffset floors.2.2.1,
    writePos := c.position, durableHead := c.position, lastLength := c.lastLength, generation := chosen.generation,
    reserved := 0, logFull := false, lowSpace := false }

/-- The scan cursor once the attach is completed (R140). -/
def ScanCursor.completed (c : ScanCursor) (chosen : HeaderCopy) : ScanCursor :=
  let working := (attachFloors c chosen).2.2.1
  { c with step := .complete, working := working, workingTail := oldestOffset working, examined := none }

/-- The walk stops and the attach is completed (R136, R140). -/
def State.completeAttach (s : State) (c : ScanCursor) : State :=
  match c.chosen with
  | none => s
  | some chosen =>
    ((((s.postDropped (attachFloors c chosen).2.2.2).modLog fun l => l.takeLog c chosen).compareLowSpace).withScan
      (some (c.completed chosen))).askHeader .attach

/-- Records found, once the scan cursor is present (R141). -/
def State.recordsFound (s : State) : Nat :=
  match s.scan with
  | none => 0
  | some c => c.found

/-! ## DETACH (R72, R143, R121) -/

/-- The runs an entry keeps at DETACH acceptance: those pending or stalled are abandoned (R70, R72). -/
def detachRuns (runs : List Run) : List Run := runs.filter fun r => !r.waiting

/-- A logged write at DETACH acceptance (R72): its ungranted runs go; with nothing left to capture it goes to READY or
AWAIT_RECORD; with a reading run left it is in CAPTURING; HELD by the freeze flag it returns to ORDERED. -/
def Entry.detach (e : Entry) : Entry :=
  if e.heldFor .freeze then e.toPhase .ordered
  else if e.phase == .capturing || e.heldFor .space then
    let e := { e with runs := detachRuns e.runs }
    if e.runs.any Run.unrecorded then e.toPhase .capturing
    else if e.waits.isEmpty then e.toPhase .ready
    else e.toPhase .awaitRecord
  else e

/-- Acceptance of DETACH (R72, R143). In HALTED the rollback ends and its holds are released (R93, R121). -/
def State.acceptDetach (s : State) : State :=
  (((s.setEngine .detaching).withRollback none).releaseHolds .rollback).mapEntries Entry.isLoggedWrite Entry.detach

/-- Entry to DETACHED from DETACHING (R145). -/
def State.finishDetach (s : State) : State :=
  ((((s.report .detachDone .absent).clearCaptureSet).modLog LogController.giveUp).setEngine .detached).dropFaultDetached

end Sys2Proof.Machine
end

