-- ==== Sys2Proof/Machine/Operands.lean ====
section
/-! DEFINITION. The operands of the commands: what a host request touches, and how the argument bytes of the link commands
are read and tested (R75, R127, R190, R195, R203). -/

namespace Sys2Proof.Machine

/-! ## Host requests (R75) -/

/-- The kind of a request. -/
def HostRequest.kind (r : HostRequest) : AccessKind :=
  match r.op with
  | .read _ => .read
  | .write _ => .write

/-- The length of a request: of a WRITE, the number of its bytes. -/
def HostRequest.length (r : HostRequest) : Nat :=
  match r.op with
  | .read n => n
  | .write bytes => bytes.length

/-- Byte mask and data of a WRITE. -/
def HostRequest.payload (r : HostRequest) : List (Bool × Byte) :=
  match r.op with
  | .read _ => []
  | .write bytes => bytes

/-- The request is well formed: 1 to 128 bytes, all in one aligned 128-byte block (R75). -/
def HostRequest.wellFormed (r : HostRequest) : Bool :=
  decide (1 ≤ HostRequest.length r ∧ HostRequest.length r ≤ Config.blockBytes ∧
    r.address.toNat % Config.blockBytes + HostRequest.length r ≤ Config.blockBytes)

/-- The granules that bytes from an address touch, lowest first (R75). -/
def touchedGranules (address : Num) (length : Nat) : List Num :=
  let first := address.toNat / 32
  let last := (address.toNat + length - 1) / 32
  (List.range (last - first + 1)).map fun k => num (32 * (first + k))

/-- A host request's granule set; none for a malformed request (R75, R84). -/
def HostRequest.granules (r : HostRequest) : List Num :=
  if HostRequest.wellFormed r then touchedGranules r.address (HostRequest.length r) else []

/-- The first byte of an access's span: the address rounded down to a multiple of 16 (R88). -/
def spanStart (address : Num) : Nat := address.toNat / 16 * 16

/-- The length of an access's span, a multiple of 16 (R88). -/
def spanLength (address : Num) (length : Nat) : Nat :=
  (address.toNat + length + 15) / 16 * 16 - spanStart address

/-- A list laid into a span at the transaction's place, the rest filled (R88). -/
def intoSpan {α : Type} (fill : α) (address : Num) (length : Nat) (xs : List α) : List α :=
  let before := address.toNat - spanStart address
  List.replicate before fill ++ xs ++ List.replicate (spanLength address length - before - xs.length) fill

/-- The memory request of a window entry's access (R88). Disabled bytes carry no data that memory uses. -/
def Entry.memRequest (e : Entry) : MemRequest :=
  match e.kind with
  | .read =>
    { kind := .read, address := num (spanStart e.address), length := spanLength e.address e.length, enables := none,
      data := [] }
  | .write =>
    { kind := .write, address := num (spanStart e.address), length := spanLength e.address e.length,
      enables := some (intoSpan false e.address e.length (e.payload.map Prod.fst)),
      data := intoSpan 0 e.address e.length (e.payload.map Prod.snd) }

/-- The bytes of a read's transaction out of its span (R90). -/
def Entry.readData (e : Entry) (span : List Byte) : List Byte :=
  (span.drop (e.address.toNat - spanStart e.address)).take e.length

/-! ## Ranges -/

/-- Two byte ranges, each a start and a size, have a byte in common. -/
def rangesOverlap (a : Nat) (m : Nat) (b : Nat) (n : Nat) : Bool := decide (a < b + n ∧ b < a + m)

/-- A region mode's code (R203). -/
def modeOfCode (c : Byte) : Option RegionMode :=
  if c = 0 then some .pass else if c = 1 then some .logged else none

/-- A write mask: bits 4 to 7 clear (R203). -/
def maskOfByte (b : Byte) : Option (BitVec 4) :=
  if b.extractLsb' 4 4 = 0 then some (b.extractLsb' 0 4) else none

/-- A region index, 0 to 15 (R190). -/
def regionIndex (b : Byte) : Option (Fin 16) :=
  if h : b.toNat < 16 then some ⟨b.toNat, h⟩ else none

/-- The arguments of SET_REGION in their ranges (R81, R190): the index and the region they describe. -/
def regionArguments (index : Byte) (base size : Num) (mode mask : Byte) : Option (Fin 16 × Region) :=
  match regionIndex index, modeOfCode mode, maskOfByte mask with
  | some i, some m, some w =>
    if base.toNat % 4096 = 0 ∧ size.toNat ≠ 0 ∧ size.toNat % 4096 = 0 ∧ base.toNat + size.toNat ≤ 2 ^ 32 then
      some (i, { valid := true, base := base, size := size.toNat, mode := m, mask := w })
    else none
  | _, _, _ => none

/-- The arguments of SET_LOG in their ranges (R127). -/
def logArguments (base size : Num) : Option LogArea :=
  if base.toNat % 4096 = 0 ∧ 16384 ≤ size.toNat ∧ size.toNat ≤ 67108864 ∧ size.toNat % 4096 = 0 ∧
      base.toNat + size.toNat ≤ 2 ^ 32 then
    some { base := base, size := size.toNat }
  else none

/-- The region overlaps a valid entry at another index (R81). -/
def State.overlapsRegion (s : State) (index : Fin 16) (r : Region) : Bool :=
  (List.finRange 16).any fun i =>
    i != index && s.regions[i].valid &&
      rangesOverlap r.base.toNat r.size s.regions[i].base.toNat s.regions[i].size

/-- A LOGGED region overlaps the log area, which is set (R81). -/
def State.overlapsLog (s : State) (r : Region) : Bool :=
  match s.log.area with
  | none => false
  | some a => r.mode == .logged && rangesOverlap r.base.toNat r.size a.base.toNat a.size

/-- A log area overlaps a valid Region Table entry of mode LOGGED (R127). -/
def State.overlapsLogged (s : State) (a : LogArea) : Bool :=
  (List.finRange 16).any fun i =>
    s.regions[i].valid && s.regions[i].mode == .logged &&
      rangesOverlap a.base.toNat a.size s.regions[i].base.toNat s.regions[i].size

/-- A Region Table entry is in use: a window entry whose snapshot names it is in capture (R81). -/
def State.regionInUse (s : State) (index : Fin 16) : Bool :=
  s.window.any fun e =>
    (match e.snapshot with
      | some snap => snap.index == index
      | none => false) && e.inCapture

/-! ## Policies (R195, R196, R203) -/

/-- A log-full policy's code. -/
def logFullOfCode (c : Byte) : Option LogFullPolicy :=
  if c = 0 then some .wait else if c = 1 then some .recycle else none

/-- A fault action's code. -/
def faultActionOfCode (c : Byte) : Option FaultAction :=
  if c = 0 then some .ignore else if c = 1 then some .freeze else if c = 2 then some .freezeRollback else none

/-- A timer action's code. -/
def timerActionOfCode (c : Byte) : Option TimerAction :=
  if c = 0 then some .event else if c = 1 then some .checkpoint else if c = 2 then some .freeze else none

/-- The arguments of SET_POLICY in their ranges (R196). -/
def policyArguments (logFull faultAction : Byte) (holdLimit : BitVec 16) (threshold : Byte) (prescaler : BitVec 16)
    (reference : Num) (timerAction : Byte) : Option Policy :=
  match logFullOfCode logFull, faultActionOfCode faultAction, timerActionOfCode timerAction with
  | some l, some f, some t =>
    if threshold.toNat ≤ 100 ∧ 1 ≤ prescaler.toNat ∧ prescaler.toNat ≤ 256 then
      some { logFull := l, faultAction := f, holdLimit := holdLimit, threshold := threshold.toNat,
             prescaler := prescaler.toNat, reference := reference, timerAction := t }
    else none
  | _, _, _ => none

end Sys2Proof.Machine
end

