-- ==== Sys2Proof/Machine/Rollback.lean ====
section
/-! DEFINITION. Rollback: ROLLBACK, QUIESCE_COMPLETE, ROLLBACK_RECORD_READ_RESPONSE, RESTORE_WRITE_RESPONSE, HALT and
RESUME. -/

namespace Sys2Proof.Machine

/-- ROLLBACK (R103, R105). -/
def execRollback (depth : Byte) (s : State) : Host.Outcome State Fault Refusal :=
  .next (s.onFrame fun s =>
    if s.log.engine = .armed then
      match markAtDepth s.log.marks depth.toNat with
      | some target => (s.respond .started []).acceptRollback target
      | none => s.refuse .range
    else s.refuse s.log.engine.startRefusal)

/-- QUIESCE_COMPLETE (R107): ROLLING_BACK is entered if it is due. -/
def execQuiesceComplete (s : State) : Host.Outcome State Fault Refusal :=
  match s.rollback with
  | none => .next s
  | some cursor => if s.quiesceDue then .next (s.startReplay cursor) else .next s

/-- The replay under way, with its cursor. -/
def State.replaying (s : State) : Option (RollbackCursor × Replay) :=
  match s.rollback with
  | none => none
  | some cursor => cursor.replay.map fun replay => (cursor, replay)

/-- ROLLBACK_RECORD_READ_RESPONSE (R111, R112): the read of the record in progress returns. -/
def execRollbackRecordReadResponse (response : MemResponse) (s : State) : Host.Outcome State Fault Refusal :=
  match s.replaying with
  | none => .next s
  | some (cursor, replay) =>
    match replay.progress with
    | .reading position length =>
      if s.answersMaint .recordRead response then
        match response with
        | .error => .next (s.freeSlot.recordBad cursor replay position .read)
        | .okay bytes => .next (s.freeSlot.recordRead cursor replay position length bytes)
      else .next s
    | _ => .next s

/-- A result of a WRITE as a memory response. -/
def WriteResult.response : WriteResult → MemResponse
  | .okay => .okay []
  | .error => .error

/-- RESTORE_WRITE_RESPONSE (R113, R116, R117): the restore write of the record in progress returns. -/
def execRestoreWriteResponse (result : WriteResult) (s : State) : Host.Outcome State Fault Refusal :=
  match s.replaying with
  | none => .next s
  | some (cursor, replay) =>
    match replay.progress with
    | .restoring h position =>
      if s.answersMaint .restoreWrite (WriteResult.response result) then
        .next (s.freeSlot.restored cursor replay h position result)
      else .next s
    | _ => .next s

/-- HALT in ROLLING_BACK (R118): with a record in progress the halt is left for it; between records the replay halts at
once; once the completion step has begun it has no effect. -/
def State.haltAt (s : State) (cursor : RollbackCursor) (replay : Replay) : State :=
  match replay.progress with
  | .between => s.haltReplay cursor replay
  | .completing => s
  | _ => s.withRollback (some { cursor with replay := some { replay with haltRequested := true } })

/-- HALT (R108, R118, R194). -/
def execHalt (s : State) : Host.Outcome State Fault Refusal :=
  .next (s.onFrame fun s =>
    if s.log.engine = .rollingBack then
      let s := s.respond .done []
      match s.replaying with
      | none => s
      | some (cursor, replay) => s.haltAt cursor replay
    else s.refuse .state)

/-- RESUME (R108, R120, R194). -/
def execResume (s : State) : Host.Outcome State Fault Refusal :=
  .next (s.onFrame fun s =>
    if s.log.engine = .halted then
      let s := (s.respond .done []).setEngine .rollingBack
      match s.replaying with
      | none => s
      | some (cursor, replay) => s.advanceReplay cursor replay
    else s.refuse .state)

end Sys2Proof.Machine
end

