-- ==== Sys2Proof/Machine/Attach.lean ====
section
/-! DEFINITION. Format, attach and detach: SET_LOG, FORMAT, FORMAT_COPY_WRITE_RESPONSE, ATTACH,
ATTACH_HEADER_READ_RESPONSE, WALK_HEADER_READ_RESPONSE, WALK_RECORD_READ_RESPONSE, DETACH and DETACH_COMPLETE. -/

namespace Sys2Proof.Machine

/-- SET_LOG (R127). -/
def execSetLog (base size : Num) (s : State) : Host.Outcome State Fault Refusal :=
  .next (s.onFrame fun s =>
    if s.log.engine = .detached then
      match logArguments base size with
      | none => s.refuse .range
      | some area =>
        if s.overlapsLogged area then s.refuse .overlap
        else (s.modLog fun l => { l with area := some area }).respond .done []
    else s.refuse .state)

/-- The test of FORMAT and ATTACH (R129, R133): in DETACHED the log area must be set; elsewhere BUSY or STATE. -/
def State.startInDetached (s : State) (accept : State → State) : State :=
  if s.log.engine = .detached then
    match s.log.area with
    | none => s.refuse .noLogArea
    | some _ => accept (s.respond .started [])
  else s.refuse s.log.engine.startRefusal

/-- FORMAT (R129, R130). -/
def execFormat (s : State) : Host.Outcome State Fault Refusal :=
  .next (s.onFrame fun s => s.startInDetached State.acceptFormat)

/-- ATTACH (R133). -/
def execAttach (s : State) : Host.Outcome State Fault Refusal :=
  .next (s.onFrame fun s => s.startInDetached State.acceptAttach)

/-- Which FORMAT copy write the oldest outstanding request is, in FORMATTING. -/
def State.formatCopyInFlight (s : State) : Option CopyName :=
  match s.oldestRequest with
  | some { owner := .maint (.formatCopy copy), .. } => if s.log.engine = .formatting then some copy else none
  | _ => none

/-- FORMAT_COPY_WRITE_RESPONSE (R131, R132): copy A follows copy B; after copy A FORMAT ends; an ERROR fails it. -/
def execFormatCopyWriteResponse (result : WriteResult) (s : State) : Host.Outcome State Fault Refusal :=
  match s.formatCopyInFlight, result with
  | none, _ => .next s
  | some copy, .error => .next (s.freeSlot.failFormat copy)
  | some .b, .okay => .next (s.freeSlot.offerMaint (.formatCopy .a) (s.log.formatRequest .a 1))
  | some .a, .okay => .next s.freeSlot.finishFormat

/-- The header step goes on when copy A has been read (R134). -/
def State.readCopyB (s : State) (c : ScanCursor) (bytes : List Byte) : State :=
  (s.withScan (some { c with copyA := validCopy s.log.ringSize .a bytes })).offerMaint (.attachHeader .b)
    (s.log.copyRead .b)

/-- The copies are chosen between when copy B has been read (R135). -/
def State.chooseAndWalk (s : State) (c : ScanCursor) (bytes : List Byte) : State :=
  match chooseCopy c.copyA (validCopy s.log.ringSize .b bytes) with
  | none => s.failAttach none .noLog
  | some chosen => s.startWalk chosen

/-- The read of a header copy returns (R134, R135). -/
def State.copyReturned (s : State) (c : ScanCursor) (copy : CopyName) (response : MemResponse) : State :=
  match response, copy with
  | .error, copy => s.failAttach (some (s.log.copyAddress copy)) .read
  | .okay bytes, .a => s.readCopyB c bytes
  | .okay bytes, .b => s.chooseAndWalk c bytes

/-- ATTACH_HEADER_READ_RESPONSE (R134, R135). -/
def execAttachHeaderReadResponse (response : MemResponse) (s : State) : Host.Outcome State Fault Refusal :=
  match s.scan with
  | none => .next s
  | some c =>
    if s.answersMaint (.attachHeader .a) response then .next (s.freeSlot.copyReturned c .a response)
    else if s.answersMaint (.attachHeader .b) response then .next (s.freeSlot.copyReturned c .b response)
    else .next s

/-- The record header at the cursor position has been read (R136): tested, then a DATA record is read whole and a FILLER's
check code is tested at once; what is not accepted stops the walk. -/
def State.headerWalked (s : State) (c : ScanCursor) (bytes : List Byte) : State :=
  let h := parseHeader bytes
  if s.log.walkTests c h (unassignedClear bytes) then
    match h.kind with
    | .data =>
      (s.withScan (some { c with examined := some h })).offerMaint .walkRecord
        (readRequest (s.log.ringAddress c.position) (recordLength h.count))
    | _ => if crc16 (bytes.take 14) = h.check then s.acceptWalked c h else s.completeAttach c
  else s.completeAttach c

/-- WALK_HEADER_READ_RESPONSE (R136, R137). An ERROR stops the walk. -/
def execWalkHeaderReadResponse (response : MemResponse) (s : State) : Host.Outcome State Fault Refusal :=
  match s.scan with
  | none => .next s
  | some c =>
    if s.answersMaint .walkHeader response then
      match response with
      | .error => .next (s.freeSlot.completeAttach c)
      | .okay bytes => .next (s.freeSlot.headerWalked c bytes)
    else .next s

/-- The whole record has been read (R136, R137): its check code is tested over the header's other fields and the data. -/
def State.recordWalked (s : State) (c : ScanCursor) (h : RecordHeader) (bytes : List Byte) : State :=
  if crc16 (bytes.take 14 ++ bytes.drop 16) = readLe16 bytes 14 then s.acceptWalked c h else s.completeAttach c

/-- WALK_RECORD_READ_RESPONSE (R136, R137). An ERROR stops the walk. -/
def execWalkRecordReadResponse (response : MemResponse) (s : State) : Host.Outcome State Fault Refusal :=
  match s.scan with
  | none => .next s
  | some c =>
    match c.examined with
    | none => .next s
    | some h =>
      if s.answersMaint .walkRecord response then
        match response with
        | .error => .next (s.freeSlot.completeAttach c)
        | .okay bytes => .next (s.freeSlot.recordWalked c h bytes)
      else .next s

/-- DETACH is accepted in ARMED, HALTED and LOG_FAULT (R143). -/
def EngineState.takesDetach : EngineState → Bool
  | .armed => true
  | .halted => true
  | .logFault => true
  | _ => false

/-- DETACH (R143, R188). -/
def execDetach (s : State) : Host.Outcome State Fault Refusal :=
  .next (s.onFrame fun s =>
    if s.log.engine.takesDetach then (s.respond .started []).acceptDetach
    else s.refuse s.log.engine.startRefusal)

/-- DETACH_COMPLETE (R144, R145): DETACHED is entered if it is due. -/
def execDetachComplete (s : State) : Host.Outcome State Fault Refusal :=
  .next (if s.detachDue then s.finishDetach else s)

end Sys2Proof.Machine
end

