-- ==== Sys2Proof/Machine/Capture.lean ====
section
/-! DEFINITION. The Capture Unit: CAPTURE_DECISION, CAPTURE_WALK, CAPTURE_READ_RESPONSE and ABANDONED_READ_RETURN. -/

namespace Sys2Proof.Machine

/-- An entry goes from ORDERED to another phase. -/
def State.sendTo (s : State) (e : Entry) (phase : Phase) : State :=
  s.updateEntry e.requester e.tag fun e => e.toPhase phase

/-- An entry is HELD for a cause, its timer started now (R94). -/
def State.holdEntry (s : State) (e : Entry) (cause : HoldCause) : State := s.sendTo e (.held cause s.newTimer)

/-- A logged write leaves ORDERED (R53, R54, R87): unlogged with tag 0 or in an unattached or detaching engine, HELD for
the freeze flag or for a rollback, refused in LOG_FAULT, and otherwise to its capture decision. -/
def State.leaveLoggedWrite (s : State) (e : Entry) : State :=
  if e.epoch = 0 then s.sendTo e .ready
  else
    match s.log.engine with
    | .armed => if s.log.freeze then s.holdEntry e .freeze else s.decideCapture e
    | .checkpointing => if s.log.freeze then s.holdEntry e .freeze else s.decideCapture e
    | .updating => if s.log.freeze then s.holdEntry e .freeze else s.decideCapture e
    | .detached => s.sendTo e .ready
    | .formatting => s.sendTo e .ready
    | .scanning => s.sendTo e .ready
    | .detaching => s.sendTo e .ready
    | .quiescing => s.holdEntry e .rollback
    | .rollingBack => s.holdEntry e .rollback
    | .halted => s.holdEntry e .rollback
    | .logFault => s.refuseEntries (fun o => o.hasKey e.requester e.tag) .logFault

/-- An entry leaves ORDERED according to its kind, its snapshot, its tag, the engine state and the freeze flag (R87). -/
def State.leaveOrdered (s : State) (e : Entry) : State :=
  if e.isLoggedWrite then s.leaveLoggedWrite e
  else if e.isLogged && s.log.engine.rollsBack then s.holdEntry e .rollback
  else s.sendTo e .ready

/-- CAPTURE_DECISION (R58, R86, R87): the oldest entry in ORDERED that passes the hazard test leaves it. -/
def execCaptureDecision (s : State) : Host.Outcome State Fault Refusal :=
  match nextToLeave [] s.window with
  | none => .next s
  | some e => .next (s.leaveOrdered e).refreshPorts

/-- CAPTURE_WALK (R63): the walk that has fallen due is made. -/
def execCaptureWalk (s : State) : Host.Outcome State Fault Refusal :=
  .next (if s.capture.walkOwed then s.walk else s)

/-- The data a capture read returned, and whether it answered ERROR. -/
def captured (response : MemResponse) : Bool × List Byte :=
  match response with
  | .okay data => (false, data)
  | .error => (true, [])

/-- The capture read of a run returns before the boundary of its entry's reserved epoch: the data stay in its slot (R36).
-/
def State.deferRun (s : State) (e : Entry) (run : Run) (response : MemResponse) : State :=
  s.updateEntry e.requester e.tag fun e => e.setRun run.id (.deferred (captured response).1 (captured response).2)

/-- CAPTURE_READ_RESPONSE (R36, R65, R66): the oldest outstanding request is the capture read of a reading run; its record
is created, or it is deferred. -/
def execCaptureReadResponse (response : MemResponse) (s : State) : Host.Outcome State Fault Refusal :=
  match s.oldestRequest with
  | some { owner := .capture id, request := request, .. } =>
    match s.findRun id with
    | some (e, run) =>
      if responseFits request response && run.condition == .reading true then
        if s.missesAll e then .next (s.freeSlot.deferRun e run response)
        else .next (s.freeSlot.createRecord e run (captured response).1 (captured response).2)
      else .next s
    | none => .next s
  | _ => .next s

/-- The run of an identity is abandoned, or has left with its entry (R71). -/
def State.runAbandoned (s : State) (id : Nat) : Bool :=
  match s.findRun id with
  | some (_, run) => run.isAbandoned
  | none => true

/-- The slot of a run freed, and the run gone from its entry (R71). -/
def State.dropRun (s : State) (id : Nat) : State :=
  ((s.modStaging fun b => { b with runSlots := b.runSlots.filter fun slot => slot != .run id }).mapEntries
    (fun _ => true) fun e => { e with runs := e.runs.filter fun r => r.id != id }).oweWalk

/-- ABANDONED_READ_RETURN (R71): the oldest outstanding request is the capture read of an abandoned run; the response is
ignored and the run's slot freed. -/
def execAbandonedReadReturn (response : MemResponse) (s : State) : Host.Outcome State Fault Refusal :=
  match s.oldestRequest with
  | some { owner := .capture id, request := request, .. } =>
    if responseFits request response && s.runAbandoned id then .next (s.freeSlot.dropRun id) else .next s
  | _ => .next s

end Sys2Proof.Machine
end

