-- ==== Sys2Proof/Machine/Epochs.lean ====
section
/-! DEFINITION. Epochs and checkpoints: CHECKPOINT, CKPT_STROBE, CHECKPOINT_BOUNDARY, RELEASE, DISCARD, and the epoch timer
with TICK and EPOCH_TIMER. -/

namespace Sys2Proof.Machine

/-- CHECKPOINT (R34, R35). -/
def execCheckpoint (s : State) : Host.Outcome State Fault Refusal :=
  .next (s.onFrame fun s =>
    if s.log.engine = .armed then (s.respond .started []).acceptCheckpoint
    else s.refuse s.log.engine.startRefusal)

/-- A checkpoint strobe from the CKPT line or the epoch timer (R42, R172). -/
def State.checkpointStrobe (s : State) (source : CheckpointSource) : State :=
  match s.log.engine with
  | .armed => s.acceptCheckpoint
  | .checkpointing => s.setCheckpointLatch true
  | .updating => s.setCheckpointLatch true
  | .detached => s.report .checkpointIgnored (.source source)
  | .formatting => s.report .checkpointIgnored (.source source)
  | .scanning => s.report .checkpointIgnored (.source source)
  | .quiescing => s.report .checkpointIgnored (.source source)
  | .rollingBack => s.report .checkpointIgnored (.source source)
  | .halted => s.report .checkpointIgnored (.source source)
  | .logFault => s.report .checkpointIgnored (.source source)
  | .detaching => s.report .checkpointIgnored (.source source)

/-- CKPT_STROBE (R42). While RST is held low no strobe is taken (R146). -/
def execCkptStrobe (s : State) : Host.Outcome State Fault Refusal :=
  .next (if s.rstLow then s else s.checkpointStrobe .line)

/-- CHECKPOINT_BOUNDARY (R37 to R39): made if it is due. -/
def execCheckpointBoundary (s : State) : Host.Outcome State Fault Refusal :=
  match s.boundaryDue with
  | none => .next s
  | some reserved => .next (s.boundary reserved)

/-- Acceptance of RELEASE n (R44): the marks dropped, the low-space comparison, the walk of "space freed", the header
write, UPDATING. -/
def State.acceptRelease (s : State) (n : Nat) : State :=
  ((((s.dropMarks n).compareLowSpace).walk).askHeader .release).setEngine .updating

/-- RELEASE (R44, R188, R193). -/
def execRelease (n : Byte) (s : State) : Host.Outcome State Fault Refusal :=
  .next (s.onFrame fun s =>
    if s.log.engine = .armed then
      if 1 ≤ n.toNat ∧ n.toNat < s.log.marks.length then (s.respond .started []).acceptRelease n.toNat
      else s.refuse .range
    else s.refuse s.log.engine.startRefusal)

/-- DISCARD is accepted in ARMED, HALTED and LOG_FAULT (R46). -/
def EngineState.takesDiscard : EngineState → Bool
  | .armed => true
  | .halted => true
  | .logFault => true
  | _ => false

/-- The Log Controller when DISCARD drops every record (R47 steps 2, 3, 6 and 7): one new mark at the write position, the
tail there, the timer restarted, the log-full indication clear. -/
def LogController.discarded (l : LogController) : LogController :=
  { l with
    marks := [l.newMark l.nextEpoch], tail := l.writePos, nextEpoch := l.nextEpoch + 1, timer := stoppedTimer,
    logFull := false }

/-- The window at DISCARD acceptance (R47 step 5): captures of uncommitted logged writes abandoned, uncommitted entries
retagged and restarted, ROLLBACK holds released. -/
def State.restartUncommitted (s : State) (epoch : Num) : State :=
  ((s.abandonCaptures fun e => !e.committed && e.isLoggedWrite).mapEntries (fun e => !e.committed) fun e =>
    e.restart epoch).releaseHolds .rollback

/-- Acceptance of DISCARD (R47). -/
def State.acceptDiscard (s : State) : State :=
  ((((((s.withRollback none).modLog LogController.discarded).clearCaptureSet).restartUncommitted
    s.log.nextEpoch).compareLowSpace.oweWalk).askHeader .discard).setEngine .updating

/-- DISCARD (R46, R47, R188). -/
def execDiscard (s : State) : Host.Outcome State Fault Refusal :=
  .next (s.onFrame fun s =>
    if s.log.engine.takesDiscard then (s.respond .started []).acceptDiscard
    else s.refuse s.log.engine.startRefusal)

/-- The counter after an increase: it stops at its maximum (R50). -/
def nextCount (counter : Num) : Num := if counter = BitVec.allOnes 32 then counter else counter + 1

/-- A firing falls due when the counter is increased to a non-zero reference with the fired indication clear (R52). -/
def firingDue (t : EpochTimer) (p : Policy) : Option Num :=
  let counter := nextCount t.counter
  if p.reference ≠ 0 ∧ counter ≠ t.counter ∧ counter = p.reference ∧ t.fired = false ∧ t.due = none then some counter
  else t.due

/-- One tick of a counting epoch timer (R50). -/
def EpochTimer.tick (t : EpochTimer) (p : Policy) : EpochTimer :=
  if t.ticks + 1 < p.prescaler then { t with ticks := t.ticks + 1 }
  else { t with ticks := 0, counter := nextCount t.counter, due := firingDue t p }

/-- One tick of the hold timer of a HELD entry (R95). -/
def Entry.tick (e : Entry) : Entry :=
  match e.phase with
  | .held cause timer => { e with phase := .held cause { timer with elapsed := timer.elapsed + 1 } }
  | _ => e

/-- The epoch timer at a tick (R50): it counts in every engine state but DETACHED, FORMATTING and SCANNING, where it is
held at 0. -/
def LogController.tick (l : LogController) : LogController :=
  { l with timer := if l.engine.unattached then stoppedTimer else l.timer.tick l.policy }

/-- TICK (R50, R95): the epoch timer counts in every engine state but DETACHED, FORMATTING and SCANNING, where it is held
at 0; every running hold timer counts. -/
def execTick (s : State) : Host.Outcome State Fault Refusal :=
  .next ((s.modLog LogController.tick).withWindow (s.window.map Entry.tick))

/-- The action of the epoch timer (R52). -/
def State.timerAction (s : State) : State :=
  match s.log.policy.timerAction with
  | .event => s
  | .checkpoint => s.checkpointStrobe .timer
  | .freeze => s.modLog fun l => { l with freeze := true }

/-- EPOCH_TIMER (R52): a firing that has fallen due is made, with the counter value that reached the reference. -/
def execEpochTimer (s : State) : Host.Outcome State Fault Refusal :=
  match s.log.timer.due with
  | none => .next s
  | some count =>
    .next ((s.modLog fun l => { l with timer := { l.timer with fired := true, due := none } }).report .epochTimer
      (.number count)).timerAction

end Sys2Proof.Machine
end

