-- ==== Sys2Proof/Machine/Faults.lean ====
section
/-! DEFINITION. Faults, freeze and events: FAULT_STROBE, FREEZE, THAW, POP_EVENT and CLEAR_SUMMARY. -/

namespace Sys2Proof.Machine

/-- Set the freeze flag (R167). -/
def State.setFreeze (s : State) : State := s.modLog fun l => { l with freeze := true }

/-- The rollback a FREEZE_ROLLBACK strobe asks for (R161, R163, R164, R166): accepted in ARMED, latched while a long
operation is in flight, dropped in LOG_FAULT. -/
def State.faultRollback (s : State) : State :=
  match s.log.engine with
  | .armed => s.acceptFaultRollback
  | .logFault => s.report .faultDropped (.prevented .logFault)
  | .detached => s
  | .formatting => s.setFaultLatch true
  | .scanning => s.setFaultLatch true
  | .checkpointing => s.setFaultLatch true
  | .updating => s.setFaultLatch true
  | .quiescing => s.setFaultLatch true
  | .rollingBack => s.setFaultLatch true
  | .halted => s.setFaultLatch true
  | .detaching => s.setFaultLatch true

/-- A FAULT strobe (R161): FAULT_SEEN with the action in force, then the action; in DETACHED nothing more. -/
def State.faultStrobe (s : State) : State :=
  let action := s.log.policy.faultAction
  let s := s.report .faultSeen (.action action)
  if s.log.engine = .detached then s
  else
    match action with
    | .ignore => s
    | .freeze => s.setFreeze
    | .freezeRollback => s.setFreeze.faultRollback

/-- FAULT_STROBE (R161). While RST is held low no strobe is taken (R146). -/
def execFaultStrobe (s : State) : Host.Outcome State Fault Refusal :=
  .next (if s.rstLow then s else s.faultStrobe)

/-- FREEZE (R168). -/
def execFreeze (s : State) : Host.Outcome State Fault Refusal :=
  .next (s.onFrame fun s => (s.respond .done []).setFreeze)

/-- THAW (R169): the flag is cleared and the entries HELD for FREEZE return to ORDERED; with the flag clear it changes
nothing. -/
def State.thaw (s : State) : State :=
  if s.log.freeze then (s.modLog fun l => { l with freeze := false }).releaseHolds .freeze else s

/-- THAW (R169). -/
def execThaw (s : State) : Host.Outcome State Fault Refusal :=
  .next (s.onFrame fun s => (s.respond .done []).thaw)

/-- POP_EVENT (R173, R192): the oldest entry is removed and is the response's results; EMPTY without one. -/
def execPopEvent (s : State) : Host.Outcome State Fault Refusal :=
  .next (s.onFrame fun s =>
    match s.events.queue with
    | [] => s.refuse .empty
    | e :: rest => (s.modEvents fun q => { q with queue := rest }).respond .done (eventBytes e))

/-- CLEAR_SUMMARY (R175). -/
def execClearSummary (s : State) : Host.Outcome State Fault Refusal :=
  .next (s.onFrame fun s => (s.modEvents fun q => { q with lost := false, summary := 0 }).respond .done [])

end Sys2Proof.Machine
end

