-- ==== Sys2Proof/Machine/HostPort.lean ====
section
/-! DEFINITION. The host port and the Transaction Window: HOST_REQUEST_ACCEPT, HOST_ACCESS_RESPONSE, RESPONSE_DELIVERY and
HOLD_TIMEOUT. -/

namespace Sys2Proof.Machine

/-- The presented request may be accepted: the window has room and its tag is free (R76). -/
def State.mayAccept (s : State) (r : HostRequest) : Bool :=
  decide (s.window.length < Config.windowCapacity) && !s.window.any fun e => e.hasKey r.requester r.tag

/-- The region snapshot of a request: none outside every region, and absent for a malformed request (R75, R79). -/
def State.snapshotFor (s : State) (r : HostRequest) : Option Snapshot :=
  if HostRequest.wellFormed r then
    (s.lookupRegion r.address).map fun found => { index := found.1, mode := found.2.mode, mask := found.2.mask }
  else none

/-- The epoch tag given at acceptance (R31). -/
def State.tagAtAcceptance (s : State) : Num :=
  if s.log.engine.unattached then 0
  else
    match s.log.engine, s.log.reservedEpoch with
    | .checkpointing, some reserved => reserved
    | _, _ => s.log.currentEpoch

/-- A WRITE is refused for permission: its region's write mask does not hold the requester (R80). -/
def permissionRefused (r : HostRequest) (snapshot : Option Snapshot) : Bool :=
  HostRequest.kind r == .write &&
    match snapshot with
    | some snap => !snap.mask.getLsbD r.requester.val
    | none => false

/-- The new window entry, its phase still to be set (R84). -/
def State.newEntry (s : State) (r : HostRequest) : Entry :=
  { requester := r.requester, tag := r.tag, kind := HostRequest.kind r, address := r.address,
    length := HostRequest.length r, payload := HostRequest.payload r, granules := HostRequest.granules r,
    snapshot := s.snapshotFor r, epoch := s.tagAtAcceptance, phase := .ordered, waits := noWaits, runs := [] }

/-- Append an entry to the window as youngest (R84). -/
def State.appendEntry (s : State) (e : Entry) : State := s.withWindow (s.window ++ [e])

/-- The first phase of a new entry, and the event of a request refused or malformed at acceptance (R75, R80, R85). -/
def State.takeRequest (s : State) (r : HostRequest) : State :=
  let e := s.newEntry r
  if !HostRequest.wellFormed r then
    (s.appendEntry (e.finish .error [])).post .dataError (some r.address) (some r.requester) (.dataError .malformed)
  else if permissionRefused r e.snapshot then (s.appendEntry (e.finish .refused [])).postRefused .permission e
  else if e.isLoggedWrite && s.log.engine == .logFault then
    (s.appendEntry (e.finish .refused [])).postRefused .logFault e
  else if e.isLogged && s.log.engine.rollsBack then s.appendEntry (e.hold .rollback s.newTimer)
  else s.appendEntry e

/-- A request arriving on the request channel waits behind those there; the first is the one presented (R75;
assumption 6). -/
def State.arrive (s : State) (arriving : Option HostRequest) : State :=
  s.modHost fun h => { h with channel := h.channel ++ arriving.toList }

/-- HOST_REQUEST_ACCEPT (R75, R76, R79, R80, R85). A request that may not be accepted stays presented. While RST is held
low the request stays presented too (R102, R146). -/
def execHostRequestAccept (arriving : Option HostRequest) (s : State) : Host.Outcome State Fault Refusal :=
  let s := s.arrive arriving
  if s.rstLow then .next s
  else
    match s.host.channel with
    | [] => .next s
    | r :: behind =>
      if s.mayAccept r then .next ((s.withHost { s.host with channel := behind }).takeRequest r).refreshPorts
      else .next s

/-- The result of an ISSUED entry's access (R90). -/
def Entry.complete (e : Entry) (response : MemResponse) : Entry :=
  match response with
  | .error => e.finish .error []
  | .okay data => e.finish .okay (if e.isWrite then [] else e.readData data)

/-- DATA_ERROR for an access answered ERROR (R90). -/
def State.postDataError (s : State) (e : Entry) (response : MemResponse) : State :=
  match response with
  | .okay _ => s
  | .error =>
    s.post .dataError (some e.address) (some e.requester) (.dataError (if e.isWrite then .write else .read))

/-- HOST_ACCESS_RESPONSE (R90, R155): the oldest outstanding request is a window entry's access, and the entry becomes
DONE. -/
def execHostAccessResponse (response : MemResponse) (s : State) : Host.Outcome State Fault Refusal :=
  match s.oldestRequest with
  | some { owner := .host requester tag, request := request, .. } =>
    match s.findEntry requester tag with
    | some e =>
      if responseFits request response && e.phase == .issued then
        .next ((s.freeSlot.updateEntry requester tag fun e => e.complete response).postDataError e response).refreshPorts
      else .next s
    | none => .next s
  | _ => .next s

/-- Remove a requester's oldest entry from the window (R101). -/
def removeOldest (requester : Requester) : List Entry → List Entry
  | [] => []
  | e :: rest => if e.requester = requester then rest else e :: removeOldest requester rest

/-- RESPONSE_DELIVERY (R100, R101): the offered response is taken, its entry leaves the window, its requester becomes the
last-served, and the arbiter chooses again. -/
def execResponseDelivery (s : State) : Host.Outcome State Fault Refusal :=
  match s.host.offered with
  | none => .next s
  | some r =>
    .next ((s.withWindow (removeOldest r s.window)).withHost
      { s.host with offered := none, lastServed := r }).refreshPorts

/-- HOLD_TIMEOUT (R96): the oldest entry whose hold timer has reached its limit is refused, its capture abandoned. -/
def execHoldTimeout (s : State) : Host.Outcome State Fault Refusal :=
  match s.window.find? Entry.expired with
  | none => .next s
  | some e => .next (s.refuseEntries (fun o => o.hasKey e.requester e.tag) .holdTimeout).refreshPorts

end Sys2Proof.Machine
end

