-- ==== Sys2Proof/Machine/LogWriter.lean ====
section
/-! DEFINITION. The Log Writer: HEADER_WRITE_PLACEMENT, RECORD_WRITE_RESPONSE, HEADER_WRITE_RESPONSE and
DISCARDED_ITEM_RESPONSE. -/

namespace Sys2Proof.Machine

/-- HEADER_WRITE_PLACEMENT (R16): a header write left waiting is placed once the stream has room. -/
def execHeaderWritePlacement (s : State) : Host.Outcome State Fault Refusal :=
  match s.log.waitingHeader with
  | none => .next s
  | some purpose =>
    if headerRoom s.stream then .next ((s.modLog fun l => { l with waitingHeader := none }).placeHeader purpose)
    else .next s

/-- The issued record of a sequence number in the stream. -/
def issuedRecord (stream : List StreamItem) (seq : Num) : Option StreamItem :=
  stream.find? fun i => i.issued && i.isRecord seq

/-- The issued header write of a generation in the stream. -/
def issuedHeader (stream : List StreamItem) (generation : Num) : Option StreamItem :=
  stream.find? fun i => i.issued && i.isHeaderWrite generation

/-- RECORD_WRITE_RESPONSE (R18, R22): the oldest outstanding request is a record's write. OKAY persists the record; ERROR
enters LOG_FAULT. -/
def execRecordWriteResponse (result : WriteResult) (s : State) : Host.Outcome State Fault Refusal :=
  match s.oldestRequest with
  | some { owner := .record seq, .. } =>
    match issuedRecord s.stream seq with
    | some item =>
      match result, item.record? with
      | .okay, some r => .next (s.freeSlot.persistRecord r)
      | .okay, none => .next s
      | .error, _ => .next (s.freeSlot.enterLogFault item fun i => i.isRecord seq)
    | none => .next s
  | _ => .next s

/-- A long operation ends in ARMED: the latches (R33), then a walk (R207). -/
def State.endOperation (s : State) (kind : EventKind) (detail : Detail) : State :=
  ((s.report kind detail).setEngine .armed).finishArmed

/-- The applied count, once the rollback cursor is present (R104). -/
def State.appliedCount (s : State) : Nat :=
  match s.rollback with
  | none => 0
  | some c => c.applied

/-- The end of a rollback at the persistence of its completion header write (R123): ROLLBACK_DONE, ARMED, the cursor
absent, the ROLLBACK holds released, then the latches. -/
def State.endRollback (s : State) : State :=
  ((((s.report .rollbackDone (.number (num s.appliedCount))).setEngine .armed).withRollback none).releaseHolds
    .rollback).finishArmed

/-- The end of an attach at the persistence of its header write (R141). ATTACH_DONE carries the newest mark's epoch, the
list being reported from ARMED on. -/
def State.endAttach (s : State) : State :=
  ((((s.setEngine .armed).report .attachDone (.attach s.recordsFound s.log.marks.length)).withScan
    none).restartTimer).cancelAtLoggingStart.finishArmed

/-- While a run is stalled in ARMED under RECYCLE, the persistence of a header write makes a walk (R206). -/
def State.walkStalled (s : State) : State :=
  if s.log.engine == .armed && s.log.policy.logFull == .recycle && s.window.any fun e => e.runs.any Run.isStalled then
    s.walk
  else s

/-- What the persistence of a header write finishes (R19, R40, R45, R48, R123, R141). A RECYCLE release's header write
finishes nothing, and stalled runs ask again (R206); with every other one they ask again in the walk of R207. -/
def State.finishHeader (s : State) (purpose : HeaderPurpose) : State :=
  match purpose with
  | .recycle => s.walkStalled
  | .checkpoint => s.endOperation .checkpointDone (.number s.log.currentEpoch)
  | .release => s.endOperation .releaseDone (.number (oldestEpoch s.log.marks))
  | .discard => s.endOperation .discardDone (.number s.log.currentEpoch)
  | .rollback => s.endRollback
  | .attach => s.endAttach

/-- A header write persists (R19). -/
def State.persistHeader (s : State) (generation : Num) (purpose : HeaderPurpose) : State :=
  (s.modStream fun items => items.filter fun i => !i.isHeaderWrite generation).finishHeader purpose

/-- HEADER_WRITE_RESPONSE (R19, R22): the oldest outstanding request is a header write of the stream. OKAY persists it and
finishes what asked for it; ERROR enters LOG_FAULT. -/
def execHeaderWriteResponse (result : WriteResult) (s : State) : Host.Outcome State Fault Refusal :=
  match s.oldestRequest with
  | some { owner := .header generation, .. } =>
    match issuedHeader s.stream generation with
    | some item =>
      match result, item.body with
      | .okay, .header purpose _ => .next (s.freeSlot.persistHeader generation purpose)
      | .okay, .record _ => .next s
      | .error, _ => .next (s.freeSlot.enterLogFault item fun i => i.isHeaderWrite generation)
    | none => .next s
  | _ => .next s

/-- DISCARDED_ITEM_RESPONSE (R156): the oldest outstanding request is an item discarded at LOG_FAULT; its response is
ignored, OKAY or ERROR alike. -/
def execDiscardedItemResponse (_result : WriteResult) (s : State) : Host.Outcome State Fault Refusal :=
  match s.oldestRequest with
  | some { owner := .discarded, .. } => .next s.freeSlot
  | _ => .next s

end Sys2Proof.Machine
end

