-- ==== Sys2Proof/Machine/FrameReceiver.lean ====
section
/-! DEFINITION. The frame receiver of the management link (R178) and its judgement of a frame (R180). -/

namespace Sys2Proof.Machine

/-- A byte from its eight bits, most significant first (R178). -/
def byteOfBits (bits : List Bool) : Byte :=
  bits.foldl (fun b bit => (b <<< 1) ||| (BitVec.ofBool bit).setWidth 8) 0

/-- The receiver when MSCS falls (R178). -/
def receiverStart : Receiver := { condition := .receiving, bytes := [], bits := [] }

/-- The argument byte count, once the second byte has been received. -/
def receiverCount (r : Receiver) : Option Nat := (r.bytes[1]?).map fun b => b.toNat

/-- A whole byte at the receiver: appended, unless the count byte is above 16; the frame is complete after count + 3
bytes (R178). -/
def receiverByte (r : Receiver) (b : Byte) : Receiver :=
  if (receiverCount r).any (fun count => 16 < count) then { r with bits := [] }
  else
    let taken := { r with bytes := r.bytes ++ [b], bits := [] }
    if (receiverCount taken).any (fun count => count ≤ 16 && taken.bytes.length == count + 3) then
      { taken with condition := .complete }
    else taken

/-- A rising edge of MSCK with one bit of MSDI (R178). -/
def receiverClock (r : Receiver) (bit : Bool) : Receiver :=
  match r.condition with
  | .idle => r
  | .complete => r
  | .receiving =>
    let bits := r.bits ++ [bit]
    if bits.length = 8 then receiverByte r (byteOfBits bits) else { r with bits := bits }

/-- The receiver at the end of a low period of MSCS whose MSCK edges sampled `bits`, before it is judged. -/
def receiverAfter (bits : List Bool) : Receiver := bits.foldl receiverClock receiverStart

/-- What the receiver finds when MSCS rises: nothing was clocked, a frame to discard, or a valid frame (R178, R180). -/
inductive FrameJudgement where
  | nothing
  | discarded
  | taken (command : Instr)
  deriving DecidableEq, Repr

/-- The judgement of a low period of MSCS (R178, R180, R186). -/
def judgeFrame (bits : List Bool) : FrameJudgement :=
  if bits = [] then .nothing
  else
    let r := receiverAfter bits
    match r.condition with
    | .complete =>
      match decodeFrame r.bytes with
      | some command => .taken command
      | none => .discarded
    | _ => .discarded

end Sys2Proof.Machine
end

