-- ==== Sys2Proof/Machine/ManagementLink.lean ====
section
/-! DEFINITION. The management link: FRAME_DISCARD, NOP, READ_STATUS, the Region Table commands, the policy commands and
READ_MARK. -/

namespace Sys2Proof.Machine

/-- FRAME_DISCARD (R178, R180, R186): a frame that is discarded makes LINK_ERROR the pending response. A low period of MSCS
with no MSCK edge is no frame, and a valid frame is not discarded: neither changes anything here. No frame is judged while
RST is held low (R146). -/
def execFrameDiscard (bits : List Bool) (s : State) : Host.Outcome State Fault Refusal :=
  .next (s.onFrame fun s =>
    match judgeFrame bits with
    | .discarded => s.respond .linkError []
    | .nothing => s
    | .taken _ => s)

/-- NOP (R185). -/
def execNop (s : State) : Host.Outcome State Fault Refusal := .next (s.onFrame fun s => s.respond .done [])

/-- The flag byte of READ_STATUS (R203). -/
def State.statusFlags (s : State) : Byte :=
  0#4 ++ BitVec.ofBool s.log.faultLatch ++ BitVec.ofBool s.log.checkpointLatch ++ BitVec.ofBool s.events.lost ++
    BitVec.ofBool s.log.freeze

/-- Used bytes as READ_STATUS reports them: 0 while the mark list is empty (R189). -/
def State.usedBytes (s : State) : Nat := if s.log.listedMarks.isEmpty then 0 else s.log.usedSpace

/-- The 21 result bytes of READ_STATUS (R189, R203). Throughout SCANNING the mark count is 0 (R133), and with it the current
epoch and the used bytes (assumption 28). -/
def State.statusBytes (s : State) : List Byte :=
  [engineCode s.log.engine, s.statusFlags, BitVec.ofNat 8 s.log.listedMarks.length, BitVec.ofNat 8 s.window.length,
    BitVec.ofNat 8 s.stagingOccupancy, BitVec.ofNat 8 s.events.queue.length] ++
    be32 s.log.currentEpoch ++ be32 (num s.usedBytes) ++ be32 (num s.log.ringSize) ++
    [s.events.summary.extractLsb' 16 8, s.events.summary.extractLsb' 8 8, s.events.summary.extractLsb' 0 8]

/-- READ_STATUS (R189). -/
def execReadStatus (s : State) : Host.Outcome State Fault Refusal :=
  .next (s.onFrame fun s => s.respond .done s.statusBytes)

/-- SET_REGION (R81, R190): the tests in their order, then the entry replaced whole. -/
def execSetRegion (index : Byte) (base size : Num) (mode mask : Byte) (s : State) :
    Host.Outcome State Fault Refusal :=
  .next (s.onFrame fun s =>
    if s.log.engine.rollsBack then s.refuse .state
    else
      match regionArguments index base size mode mask with
      | none => s.refuse .range
      | some (i, r) =>
        if s.overlapsRegion i r || s.overlapsLog r then s.refuse .overlap
        else if s.regionInUse i then s.refuse .inUse
        else (s.withRegions (s.regions.set i r)).respond .done [])

/-- CLEAR_REGION (R83, R190). -/
def execClearRegion (index : Byte) (s : State) : Host.Outcome State Fault Refusal :=
  .next (s.onFrame fun s =>
    if s.log.engine.rollsBack then s.refuse .state
    else
      match regionIndex index with
      | none => s.refuse .range
      | some i =>
        if s.regionInUse i then s.refuse .inUse
        else (s.withRegions (s.regions.set i invalidRegion)).respond .done [])

/-- READ_REGION (R190). -/
def execReadRegion (index : Byte) (s : State) : Host.Outcome State Fault Refusal :=
  .next (s.onFrame fun s =>
    match regionIndex index with
    | none => s.refuse .range
    | some i => s.respond .done (regionBytes s.regions[i]))

/-- The epoch timer when the policies change: a changed prescaler returns the tick count to 0 (R50, R196). -/
def EpochTimer.adopt (t : EpochTimer) (old new : Policy) : EpochTimer :=
  if old.prescaler = new.prescaler then t else { t with ticks := 0 }

/-- "Space freed" is signalled and answered by a walk, unless the log-full policy is unchanged (R196). -/
def State.walkUnless (s : State) (unchanged : Bool) : State := if unchanged then s else s.walk

/-- The low-space comparison, unless the threshold is unchanged (R196). -/
def State.compareUnless (s : State) (unchanged : Bool) : State := if unchanged then s else s.compareLowSpace

/-- The seven settings written together, and the effects of those that changed, in the order of R196: "space freed" for
the log-full policy, the low-space comparison for the threshold, the tick count for the prescaler. -/
def State.setPolicies (s : State) (p : Policy) : State :=
  ((s.modLog fun l => { l with policy := p, timer := l.timer.adopt l.policy p }).walkUnless
    (s.log.policy.logFull == p.logFull)).compareUnless (s.log.policy.threshold == p.threshold)

/-- SET_POLICY (R196). -/
def execSetPolicy (logFull faultAction : Byte) (holdLimit : BitVec 16) (threshold : Byte) (prescaler : BitVec 16)
    (reference : Num) (timerAction : Byte) (s : State) : Host.Outcome State Fault Refusal :=
  .next (s.onFrame fun s =>
    match policyArguments logFull faultAction holdLimit threshold prescaler reference timerAction with
    | none => s.refuse .range
    | some p => (s.respond .done []).setPolicies p)

/-- READ_POLICY (R197). -/
def execReadPolicy (s : State) : Host.Outcome State Fault Refusal :=
  .next (s.onFrame fun s => s.respond .done (policyBytes s.log.policy))

/-- READ_MARK (R191): refused with RANGE throughout SCANNING (R133). -/
def execReadMark (index : Byte) (s : State) : Host.Outcome State Fault Refusal :=
  .next (s.onFrame fun s =>
    match s.log.listedMarks[index.toNat]? with
    | none => s.refuse .range
    | some m => s.respond .done (markResults m))

end Sys2Proof.Machine
end

