-- ==== Sys2Proof/Machine/MemoryPort.lean ====
section
/-! DEFINITION. The Memory Port: MEMORY_GRANT, ORPHAN_RESPONSE and STRAY_RESPONSE. -/

namespace Sys2Proof.Machine

/-! ## What the claimants offer (R151) -/

/-- The memory request of a stream item (R17). -/
def LogController.itemRequest (l : LogController) (i : StreamItem) : MemRequest :=
  match i.body with
  | .record r => writeRequest (l.itemAddress i) r.bytes
  | .header _ copy => writeRequest (l.itemAddress i) (copyBytes copy)

/-- The owner of a stream item's request (R150). -/
def StreamItem.owner (i : StreamItem) : Owner :=
  match i.body with
  | .record r => .record r.header.seq
  | .header _ copy => .header copy.generation

/-- The item LOG offers: the oldest queued item, a header write only when it is the oldest of the stream, so that every
item before it has persisted (R17). -/
def logOffer : List StreamItem → Option StreamItem
  | [] => none
  | i :: behind =>
    if i.issued then (behind.find? fun o => !o.issued).filter fun o => !o.isHeader else some i

/-- The run CAPTURE offers: the reading run, not yet issued, whose space was granted first (R64). -/
def State.captureOffer (s : State) : Option Run :=
  s.staging.runSlots.findSome? fun slot =>
    match slot with
    | .run id => ((s.findRun id).map Prod.snd).filter fun r => r.condition == .reading false
    | .record _ => none

/-- The entry HOST offers: the oldest in READY (R88). -/
def State.hostOffer (s : State) : Option Entry := s.window.find? Entry.isReady

/-- What the arbiter grants. -/
inductive Grant where
  | log (item : StreamItem)
  | maint (offer : MaintOffer)
  | capture (run : Run)
  | host (entry : Entry)
  deriving DecidableEq, Repr

/-- The first offer in the order LOG, MAINT, CAPTURE, HOST (R153). -/
def State.byPriority (s : State) : Option Grant :=
  match logOffer s.stream, s.maintOffer, s.captureOffer, s.hostOffer with
  | some i, _, _, _ => some (.log i)
  | none, some m, _, _ => some (.maint m)
  | none, none, some r, _ => some (.capture r)
  | none, none, none, some e => some (.host e)
  | none, none, none, none => none

/-- The request the arbiter grants: HOST when it offers and has been passed over four times, else by priority (R153). -/
def State.choose (s : State) : Option Grant :=
  match s.hostOffer with
  | some e => if Config.bypassLimit ≤ s.port.bypass then some (.host e) else s.byPriority
  | none => s.byPriority

/-- The host bypass count after a grant to LOG, MAINT or CAPTURE (R154). -/
def State.bypassed (s : State) : Nat :=
  if s.hostOffer.isSome then min Config.bypassLimit (s.port.bypass + 1) else 0

/-- A granted request takes the newest place in the outstanding list (R150, R153). -/
def State.issue (s : State) (claimant : Claimant) (owner : Owner) (request : MemRequest) (bypass : Nat) : State :=
  s.withPort
    { outstanding := s.port.outstanding ++ [{ claimant := claimant, owner := owner, request := request, orphan := false }]
      bypass := bypass }

/-- The first queued item that equals a given one becomes issued. -/
def markIssued (item : StreamItem) : List StreamItem → List StreamItem
  | [] => []
  | i :: behind => if i = item then { i with issued := true } :: behind else i :: markIssued item behind

/-- A read's length of n granules (R64). -/
def Run.readRequest (r : Run) : MemRequest := Machine.readRequest r.first (32 * r.count)

/-- A grant: the request is issued and its owner learns of it (R153). A granted WRITE's byte mask and data are handed over
(R84). -/
def State.grant (s : State) (g : Grant) : State :=
  match g with
  | .log item =>
    (s.issue .log item.owner (s.log.itemRequest item) s.bypassed).withStream (markIssued item s.stream)
  | .maint offer => (s.issue .maint (.maint offer.step) offer.request s.bypassed).withMaint none
  | .capture run =>
    (s.issue .capture (.capture run.id) run.readRequest s.bypassed).mapEntries (fun _ => true)
      fun e => e.setRun run.id (.reading true)
  | .host entry =>
    (s.issue .host (.host entry.requester entry.tag) entry.memRequest 0).updateEntry entry.requester entry.tag
      fun e => { e with phase := .issued, payload := [] }

/-- MEMORY_GRANT (R153, R154): one grant, if a slot is free and a claimant offers. While RST is held low nothing is granted
(R146). -/
def execMemoryGrant (s : State) : Host.Outcome State Fault Refusal :=
  if s.rstLow || decide (Config.outstandingCapacity ≤ s.port.outstanding.length) then .next s
  else
    match s.choose with
    | none => .next s
    | some g => .next (s.grant g)

/-- ORPHAN_RESPONSE (R159): the oldest outstanding request was issued before a reset; its response is discarded. -/
def execOrphanResponse (response : MemResponse) (s : State) : Host.Outcome State Fault Refusal :=
  match s.port.outstanding with
  | [] => .next s
  | o :: _ => if o.orphan && responseFits o.request response then .next s.freeSlot else .next s

/-- STRAY_RESPONSE (R149): a response that arrives with no request outstanding changes no state. With a request outstanding
no response is stray. -/
def execStrayResponse (_response : MemResponse) (s : State) : Host.Outcome State Fault Refusal := .next s

end Sys2Proof.Machine
end

