-- ==== Sys2Proof/Machine/Resets.lean ====
section
/-! DEFINITION. The resets: POWER_ON, RST and RESTART (R102, R146, R159, R177, R183, R198). -/

namespace Sys2Proof.Machine

/-- A request outstanding at a reset keeps its slot with the orphan mark and without an owner (R159). -/
def Outstanding.orphaned (o : Outstanding) : Outstanding := { o with owner := .gone, orphan := true }

/-- The reset values of every block (R146), with the outstanding list given. The request channel is outside the reset
(R102), and the model's command queue is not the part's. -/
def State.resetTo (s : State) (outstanding : List Outstanding) (low : Bool) : State :=
  { State.reset with
    pending := s.pending
    rstLow := low
    host := { State.reset.host with channel := s.host.channel }
    port := { outstanding := outstanding, bypass := 0 } }

/-- POWER_ON (R146): every block at its reset values; no request is owed (R159). RST is high (assumption 9). -/
def execPowerOn (s : State) : Host.Outcome State Fault Refusal := .next (s.resetTo [] false)

/-- RST (R146): the falling edge resets the part and holds it; outstanding requests become orphans (R159). The part runs
from the reset values when RST rises. -/
def execRst (edge : RstEdge) (s : State) : Host.Outcome State Fault Refusal :=
  match edge with
  | .falls => .next (s.resetTo (s.port.outstanding.map Outstanding.orphaned) true)
  | .rises => .next (s.withRst false)

/-- RESTART (R198): the values of RST; the pending response is DONE with no results. -/
def execRestart (s : State) : Host.Outcome State Fault Refusal :=
  .next (s.onFrame fun s => (s.resetTo (s.port.outstanding.map Outstanding.orphaned) false).respond .done [])

end Sys2Proof.Machine
end

