-- ==== Sys2Proof/Machine/Dispatch.lean ====
section
/-! DEFINITION. The effect of every command: one call of a meaning for each row of spec/opcode_table.json. -/

namespace Sys2Proof.Machine

/-- The effect of a command on everything but the queue. -/
def exec (i : Instr) (s : State) : Host.Outcome State Fault Refusal :=
  match i with
  | .powerOn => Sys2Proof.Machine.execPowerOn s
  | .rst edge => Sys2Proof.Machine.execRst edge s
  | .hostRequestAccept arriving => Sys2Proof.Machine.execHostRequestAccept arriving s
  | .captureDecision => Sys2Proof.Machine.execCaptureDecision s
  | .captureWalk => Sys2Proof.Machine.execCaptureWalk s
  | .headerWritePlacement => Sys2Proof.Machine.execHeaderWritePlacement s
  | .memoryGrant => Sys2Proof.Machine.execMemoryGrant s
  | .captureReadResponse response => Sys2Proof.Machine.execCaptureReadResponse response s
  | .abandonedReadReturn response => Sys2Proof.Machine.execAbandonedReadReturn response s
  | .recordWriteResponse result => Sys2Proof.Machine.execRecordWriteResponse result s
  | .headerWriteResponse result => Sys2Proof.Machine.execHeaderWriteResponse result s
  | .discardedItemResponse result => Sys2Proof.Machine.execDiscardedItemResponse result s
  | .checkpointBoundary => Sys2Proof.Machine.execCheckpointBoundary s
  | .quiesceComplete => Sys2Proof.Machine.execQuiesceComplete s
  | .rollbackRecordReadResponse response => Sys2Proof.Machine.execRollbackRecordReadResponse response s
  | .restoreWriteResponse result => Sys2Proof.Machine.execRestoreWriteResponse result s
  | .formatCopyWriteResponse result => Sys2Proof.Machine.execFormatCopyWriteResponse result s
  | .attachHeaderReadResponse response => Sys2Proof.Machine.execAttachHeaderReadResponse response s
  | .walkHeaderReadResponse response => Sys2Proof.Machine.execWalkHeaderReadResponse response s
  | .walkRecordReadResponse response => Sys2Proof.Machine.execWalkRecordReadResponse response s
  | .hostAccessResponse response => Sys2Proof.Machine.execHostAccessResponse response s
  | .orphanResponse response => Sys2Proof.Machine.execOrphanResponse response s
  | .strayResponse response => Sys2Proof.Machine.execStrayResponse response s
  | .detachComplete => Sys2Proof.Machine.execDetachComplete s
  | .responseDelivery => Sys2Proof.Machine.execResponseDelivery s
  | .holdTimeout => Sys2Proof.Machine.execHoldTimeout s
  | .epochTimer => Sys2Proof.Machine.execEpochTimer s
  | .ckptStrobe => Sys2Proof.Machine.execCkptStrobe s
  | .faultStrobe => Sys2Proof.Machine.execFaultStrobe s
  | .frameDiscard bits => Sys2Proof.Machine.execFrameDiscard bits s
  | .nop => Sys2Proof.Machine.execNop s
  | .readStatus => Sys2Proof.Machine.execReadStatus s
  | .setRegion index base size mode mask => Sys2Proof.Machine.execSetRegion index base size mode mask s
  | .clearRegion index => Sys2Proof.Machine.execClearRegion index s
  | .readRegion index => Sys2Proof.Machine.execReadRegion index s
  | .setLog base size => Sys2Proof.Machine.execSetLog base size s
  | .format => Sys2Proof.Machine.execFormat s
  | .attach => Sys2Proof.Machine.execAttach s
  | .detach => Sys2Proof.Machine.execDetach s
  | .checkpoint => Sys2Proof.Machine.execCheckpoint s
  | .release n => Sys2Proof.Machine.execRelease n s
  | .discard => Sys2Proof.Machine.execDiscard s
  | .rollback depth => Sys2Proof.Machine.execRollback depth s
  | .halt => Sys2Proof.Machine.execHalt s
  | .resume => Sys2Proof.Machine.execResume s
  | .freeze => Sys2Proof.Machine.execFreeze s
  | .thaw => Sys2Proof.Machine.execThaw s
  | .setPolicy logFull faultAction holdLimit threshold prescaler reference timerAction => Sys2Proof.Machine.execSetPolicy logFull faultAction holdLimit threshold prescaler reference timerAction s
  | .readPolicy => Sys2Proof.Machine.execReadPolicy s
  | .readMark index => Sys2Proof.Machine.execReadMark index s
  | .popEvent => Sys2Proof.Machine.execPopEvent s
  | .clearSummary => Sys2Proof.Machine.execClearSummary s
  | .restart => Sys2Proof.Machine.execRestart s
  | .tick => Sys2Proof.Machine.execTick s

end Sys2Proof.Machine
end

