-- ==== Sys2Proof/Safety.lean ====
section
/-! DEFINITION. The terms claims are stated in: the laws of the device that every step keeps, the answer of a link command,
and what a command can be. -/

namespace Sys2Proof.Machine

/-! ## Laws every step keeps -/

/-- The Transaction Window holds at most 8 entries (R84, R99), no two of one requester and tag (R76). -/
def WindowLaw (s : State) : Prop :=
  s.window.length ≤ 8 ∧ (s.window.map fun e => (e.requester, e.tag)).Nodup

/-- At most 4 requests are outstanding (R150), and the host bypass count is at most 4 (R154). -/
def PortLaw (s : State) : Prop := s.port.outstanding.length ≤ 4 ∧ s.port.bypass ≤ 4

/-- The Event Queue holds at most 8 entries (R170). -/
def EventLaw (s : State) : Prop := s.events.queue.length ≤ 8

/-- The Capture Set holds at most 64 entries, no two with the same granule address (R55). -/
def CaptureSetLaw (s : State) : Prop :=
  s.capture.set.length ≤ 64 ∧ (s.capture.set.map CaptureEntry.granule).Nodup

/-- A mark list under construction by ATTACH holds at most 8 marks (R133, R201). -/
def ScanLaw (c : ScanCursor) : Prop := c.working.length ≤ 8 ∧ ∀ copy, c.copyA = some copy → copy.marks.length ≤ 8

/-- The mark list holds at most 8 marks, and the tail is the ring offset of the oldest (R7, R28). -/
def MarkLaw (s : State) : Prop :=
  s.log.marks.length ≤ 8 ∧ s.log.tail = oldestOffset s.log.marks ∧ ∀ c, s.scan = some c → ScanLaw c

/-- The stream holds at most 8 header writes (R16), and at most 7 run slots are taken (R67). -/
def StreamLaw (s : State) : Prop := headerWrites s.stream ≤ 8 ∧ s.staging.runSlots.length ≤ 7

/-- The policies are in their ranges (R195), and the tick count is below the prescaler (R49). -/
def TimerLaw (s : State) : Prop :=
  s.log.policy.threshold ≤ 100 ∧ 1 ≤ s.log.policy.prescaler ∧ s.log.policy.prescaler ≤ 256 ∧
    s.log.timer.ticks < s.log.policy.prescaler

/-! ## Link commands -/

/-- The link after a command was answered: the receiver is IDLE and the response is pending (R180, R181). -/
def answered (status : Status) (results : List Byte) : Link :=
  { receiver := { condition := .idle, bytes := [], bits := [] }
    response := { status := status, results := results } }

/-- The command is one of the management link's (R187). -/
def linkCommand (c : Instr) : Bool := (frameContents c).isSome

/-- The command is a reset (R146). -/
def isReset (c : Instr) : Bool :=
  match c with
  | .powerOn => true
  | .rst .falls => true
  | .restart => true
  | _ => false

/-! ## Happenings that several claims share -/

/-- `t` is what a walk over the waiting runs makes of `s` (R63): what CAPTURE_WALK makes of it with a walk due. -/
def Walks (s t : State) : Prop :=
  exec .captureWalk { s with capture := { s.capture with walkOwed := true } } = .next t

/-- The Event Queue after a REFUSED event for each of the entries, in their order (R98). -/
def refusalEvents (epoch : Num) (reason : RefusalReason) (entries : List Entry) (q : EventQueue) : EventQueue :=
  entries.foldl (fun q e => q.post
    { kind := .refused, epoch := epoch, address := some e.address, requester := some e.requester,
      detail := .refusal reason }) q

/-- `t` is what a return to ARMED makes of `u`, the state with the operation's completion event posted and ARMED entered:
the latches act (R33), then a walk is made in the state they leave (R207). A latched fault is cleared and accepted as
ROLLBACK 0 is, without its link response (R165), and a latched checkpoint is then dropped with CKPT_IGNORED; without a
latched fault a latched checkpoint is accepted (R35). -/
def ReturnsToArmed (u t : State) : Prop :=
  (u.log.faultLatch = false → u.log.checkpointLatch = false → Walks u t) ∧
  (u.log.faultLatch = false → u.log.checkpointLatch = true →
    Walks
      { u with
        log := { u.log with
          checkpointLatch := false, engine := .checkpointing, reservedEpoch := some u.log.nextEpoch,
          nextEpoch := u.log.nextEpoch + 1 } } t) ∧
  (u.log.faultLatch = true → ∃ v : State,
    exec (.rollback 0) { u with rstLow := false, log := { u.log with faultLatch := false } } = .next v ∧
    Walks
      { v with
        rstLow := u.rstLow, link := u.link
        log := { v.log with checkpointLatch := false }
        events :=
          if u.log.checkpointLatch then v.events.post
            { kind := .checkpointIgnored, epoch := u.log.currentEpoch, address := none, requester := none,
              detail := .source .latch }
          else v.events } t)

end Sys2Proof.Machine
end

