-- ==== Sys2Proof/Certificates/Slice0/Obligations.lean ====
section
/-! DEFINITION. The statements about the 3140, for the provers. Each docstring names the rules it formalises. In a statement
about a command, `exec c s = .next t` says that the command is taken in state `s` and completes in state `t`; a record update
`{ s with … }` lists everything it changes. -/

open Sys2Proof Sys2Proof.Machine

/-! ## The step and the resets -/

/-- Model (assumption 3): the command at the front of the queue acts on the state with the queue's rest; an empty queue
idles. -/
def Obligations.StepTakesTheFrontCommand : Prop :=
  (∀ (c : Instr) (rest : List Instr) (s : State),
    step { s with pending := c :: rest } = exec c { s with pending := rest }) ∧
  ∀ s : State, step { s with pending := [] } = .next { s with pending := [] }

/-- R146, R102, R78, R104, R133, R150, R170, R174, R178, R183, R195: the values after power-on. -/
def Obligations.ResetLeavesTheStatedValues : Prop :=
  let s := State.reset
  (s.log.engine = .detached ∧ s.log.freeze = false ∧ s.log.checkpointLatch = false ∧ s.log.faultLatch = false ∧
    s.log.area = none ∧ s.log.ringSize = 0 ∧ s.log.marks = [] ∧ s.log.tail = 0 ∧ s.log.writePos = 0 ∧
    s.log.durableHead = 0 ∧ s.log.lastLength = 0 ∧ s.log.nextSeq = 0 ∧ s.log.nextEpoch = 0 ∧ s.log.generation = 0 ∧
    s.log.reserved = 0 ∧ s.log.lowSpace = false ∧ s.log.logFull = false ∧ s.log.timer.ticks = 0 ∧
    s.log.timer.counter = 0 ∧ s.log.timer.fired = false) ∧
  s.log.policy =
    { logFull := .wait, faultAction := .freeze, holdLimit := 0, threshold := 0, prescaler := 1, reference := 0,
      timerAction := .event } ∧
  (s.scan = none ∧ s.rollback = none ∧ s.window = [] ∧ s.capture.set = [] ∧ s.staging.runSlots = [] ∧
    s.staging.filler = none ∧ s.stream = [] ∧ s.port.outstanding = [] ∧ s.port.bypass = 0 ∧ s.events.queue = [] ∧
    s.events.lost = false ∧ s.events.summary = 0 ∧ s.host.lastServed = 3 ∧ s.host.offered = none) ∧
  (∀ i : Fin 16, s.regions[i] = { valid := false, base := 0, size := 0, mode := .pass, mask := 0 }) ∧
  s.link = answered .done []

/-- R146, R102, R159, R183, R198: POWER_ON, the fall of RST and RESTART give every block its reset values in any state;
the presented requests stay; after RST and RESTART the outstanding requests stay as orphans, after POWER_ON none is owed.
The rise of RST lets the part run. While RST is held low no host request is accepted, no strobe and no link frame is
taken, and no memory request is granted. Model's choice: the model's own fields return to their reset values too
(assumption 12), and RST is given by its edges (assumption 9). -/
def Obligations.EveryResetGivesTheResetValues : Prop :=
  ∀ s : State,
    let values (low : Bool) (outstanding : List Outstanding) : State :=
      { State.reset with
        pending := s.pending, rstLow := low, host := { State.reset.host with channel := s.host.channel },
        port := { outstanding := outstanding, bypass := 0 } }
    let orphans := s.port.outstanding.map fun o => { o with owner := .gone, orphan := true }
    exec .powerOn s = .next (values false []) ∧
    exec (.rst .falls) s = .next (values true orphans) ∧
    exec (.rst .rises) s = .next { s with rstLow := false } ∧
    (s.rstLow = false → exec .restart s = .next (values false orphans)) ∧
    (s.rstLow = true →
      (∀ c : Instr, linkCommand c = true → exec c s = .next s) ∧
      (∀ bits : List Bool, exec (.frameDiscard bits) s = .next s) ∧
      exec .ckptStrobe s = .next s ∧ exec .faultStrobe s = .next s ∧ exec .memoryGrant s = .next s ∧
      ∀ arriving : Option HostRequest,
        exec (.hostRequestAccept arriving) s =
          .next { s with host := { s.host with channel := s.host.channel ++ arriving.toList } })

/-! ## Laws that every step keeps -/

/-- The laws of this section hold right after reset. -/
def Obligations.LawsHoldAtReset : Prop :=
  WindowLaw State.reset ∧ PortLaw State.reset ∧ EventLaw State.reset ∧ CaptureSetLaw State.reset ∧
    MarkLaw State.reset ∧ StreamLaw State.reset ∧ TimerLaw State.reset

/-- R76, R84, R99: the Transaction Window holds at most 8 entries, no two of one requester and tag. -/
def Obligations.EveryStepKeepsTheWindowLaw : Prop :=
  ∀ s t : State, WindowLaw s → Machine.step s = .next t → WindowLaw t

/-- R16, R67, R150, R154, R170: at most 4 requests are outstanding and the host bypass count is at most 4; the log stream
holds at most 8 header writes and at most 7 run slots are taken; the Event Queue holds at most 8 entries. -/
def Obligations.EveryStepKeepsTheCapacityLaws : Prop :=
  ∀ s t : State, Machine.step s = .next t →
    (PortLaw s → PortLaw t) ∧ (StreamLaw s → StreamLaw t) ∧ (EventLaw s → EventLaw t)

/-- R55: the Capture Set holds at most 64 entries, no two with the same granule address. -/
def Obligations.EveryStepKeepsTheCaptureSetLaw : Prop :=
  ∀ s t : State, CaptureSetLaw s → Machine.step s = .next t → CaptureSetLaw t

/-- R7, R28: the mark list holds at most 8 marks, and the tail is the ring offset of the oldest. -/
def Obligations.EveryStepKeepsTheMarkLaw : Prop :=
  ∀ s t : State, MarkLaw s → Machine.step s = .next t → MarkLaw t

/-- R49, R195: the policies stay in their ranges, and the tick count below the prescaler. -/
def Obligations.EveryStepKeepsTheTimerLaw : Prop :=
  ∀ s t : State, TimerLaw s → Machine.step s = .next t → TimerLaw t

/-! ## What only some commands change -/

/-- R167: the freeze flag is set by FREEZE, a FAULT strobe and the epoch timer alone, and cleared by THAW and the resets
alone. -/
def Obligations.FreezeFlagChangesOnlyByItsCommands : Prop :=
  ∀ (c : Instr) (s t : State), exec c s = .next t →
    (s.log.freeze = false → t.log.freeze = true → c = .freeze ∨ c = .faultStrobe ∨ c = .epochTimer) ∧
    (s.log.freeze = true → t.log.freeze = false → c = .thaw ∨ isReset c = true)

/-- R78, R81, R83, R127, R128, R195, R196: the Region Table changes only at SET_REGION, CLEAR_REGION and the resets, the log
area only at SET_LOG and the resets, the policies only at SET_POLICY and the resets. -/
def Obligations.SettingsChangeOnlyByTheirCommands : Prop :=
  ∀ (c : Instr) (s t : State), exec c s = .next t → isReset c = false →
    ((∀ i b n m w, c ≠ .setRegion i b n m w) → (∀ i, c ≠ .clearRegion i) → t.regions = s.regions) ∧
    ((∀ b n, c ≠ .setLog b n) → t.log.area = s.log.area) ∧
    ((∀ l f h n p r a, c ≠ .setPolicy l f h n p r a) → t.log.policy = s.log.policy)

/-- R184: a refused link command changes no state but the pending response and posts no event; an answered one leaves its own
response pending. -/
def Obligations.RefusedCommandChangesOnlyTheResponse : Prop :=
  ∀ (c : Instr) (s t : State), linkCommand c = true → s.rstLow = false → exec c s = .next t →
    ∃ status results, t.link = answered status results ∧ status ≠ .linkError ∧
      ((∃ reason, status = .refused reason) → t = { s with link := answered status [] }) ∧
      (status ≠ .done → results = [])

/-! ## Encodings -/

/-- R179, R187, R202, R203: the frame of every link command, with every argument, is read back as that command. Model's
choice: a command row stands for its valid frame (assumption 10). -/
def Obligations.LinkFrameReadsBack : Prop :=
  ∀ (c : Instr) (frame : List Byte), encodeFrame c = some frame → decodeFrame frame = some c

/-- R178, R180, R182, R184, R186, R202: what the frame receiver makes of a low period of MSCS. A whole frame is taken
exactly when its CRC-8 is right and its number and count name a command, whatever is clocked after it; a frame cut short
and a count above 16 are discarded; no clock is no frame. A discarded frame leaves a LINK_ERROR response pending and
touches nothing else. The pending response is shifted out on MSDO as its status, its result count, its results and their
CRC-8, each byte most significant bit first, then zeros. Model's choice: a low period of MSCS is taken whole (assumption
10). -/
def Obligations.ReceiverJudgesFrames : Prop :=
  (∀ (number : Byte) (arguments : List Byte) (code : Byte) (extra : List Bool), arguments.length ≤ 16 →
    let message := number :: BitVec.ofNat 8 arguments.length :: arguments
    let bits := (message ++ [code]).flatMap byteBits
    (code = crc8 message → ∀ c, decodeCommand number arguments = some c → judgeFrame (bits ++ extra) = .taken c) ∧
    ((code ≠ crc8 message ∨ decodeCommand number arguments = none) → judgeFrame (bits ++ extra) = .discarded) ∧
    ∀ n, 0 < n → n < bits.length → judgeFrame (bits.take n) = .discarded) ∧
  (∀ (number count : Byte) (extra : List Bool), 16 < count.toNat →
    judgeFrame ([number, count].flatMap byteBits ++ extra) = .discarded) ∧
  judgeFrame [] = .nothing ∧
  (∀ (s : State) (bits : List Bool), s.rstLow = false → judgeFrame bits = .discarded →
    exec (.frameDiscard bits) s = .next { s with link := answered .linkError [] }) ∧
  ∀ (status : Status) (results : List Byte), results.length ≤ 24 →
    let code : Byte := match status with
      | .done => 0x01
      | .started => 0x02
      | .linkError => 0x03
      | .refused .state => 0x81
      | .refused .busy => 0x82
      | .refused .range => 0x83
      | .refused .overlap => 0x84
      | .refused .inUse => 0x85
      | .refused .empty => 0x86
      | .refused .noLogArea => 0x87
    let message := code :: BitVec.ofNat 8 results.length :: results
    let response : Response := { status := status, results := results }
    response.bytes = message ++ [crc8 message] ∧ response.bytes.length = results.length + 3 ∧
    ∀ n, response.msdo n = ((message ++ [crc8 message]).getD (n / 8) 0).getLsbD (7 - n % 8)

/-- R4, R200, R205: the 16 bytes of a record header are read back as the header, its unassigned bits clear; and a record
created by the part has the right check code when its bytes are read back, whatever bytes follow a filler's header. -/
def Obligations.CreatedRecordReadsBack : Prop :=
  (∀ h : RecordHeader, h.back < 16 → h.count < 8 → h.kind ≠ .other →
    (headerBytes h).length = 16 ∧ parseHeader (headerBytes h) = h ∧ unassignedClear (headerBytes h) = true) ∧
  (∀ (l : LogController) (run : Run) (epoch : BitVec 32) (q : Requester) (poison : Bool) (data : List Byte),
    1 ≤ run.count → run.count ≤ 4 → l.lastLength ≤ 9 → data.length = 32 * run.count →
    let r := l.dataRecord run epoch q poison data
    r.bytes.length = recordLength run.count ∧ codeRight (parseHeader r.bytes) r.bytes = true) ∧
  ∀ (l : LogController) (L : Nat) (epoch : BitVec 32) (q : Requester) (r : Record) (behind : List Byte), l.lastLength ≤ 9 →
    l.filler L epoch q = some r →
    r.bytes.length = 16 ∧ codeRight (parseHeader r.bytes) (r.bytes ++ behind) = true

/-- R20, R21, R134, R201, R205: a header write describes the log in 256 bytes, and read back from its copy it is valid and
gives back what it describes. -/
def Obligations.HeaderWriteReadsBackValid : Prop :=
  ∀ (l : LogController) (generation : BitVec 32), 1 ≤ l.marks.length → l.marks.length ≤ 8 → epochsIncrease l.marks = true →
    (∀ m ∈ l.marks, m.offset % 16 = 0 ∧ m.offset < l.ringSize ∧ m.offset < 2 ^ 32 ∧ m.back ≤ 9) →
    let copy := l.headerCopy generation
    (copyBytes copy).length = 256 ∧
    validCopy l.ringSize (copyOfGeneration generation) (copyBytes copy) = some copy ∧
    copy.format = 1 ∧ copy.generation = generation ∧ copy.ringSize = num l.ringSize ∧ copy.nextEpoch = l.nextEpoch ∧
    copy.nextSeq = l.nextSeq ∧ copy.marks = l.marks

/-! ## Event Queue, faults and freeze -/

/-- R30, R170, R171, R174: posting changes the Event Queue alone. The entry carries the current epoch; with room it is
appended as newest, else it is dropped and the lost flag is set; its kind joins the summary either way. -/
def Obligations.PostingFollowsTheQueueRule : Prop :=
  ∀ (s : State) (kind : EventKind) (address : Option (BitVec 32)) (requester : Option Requester) (detail : Detail),
    let t := s.post kind address requester detail
    let entry : Event :=
      { kind := kind, epoch := s.log.currentEpoch, address := address, requester := requester, detail := detail }
    t = { s with events := t.events } ∧
    (s.events.queue.length < 8 → t.events.queue = s.events.queue ++ [entry] ∧ t.events.lost = s.events.lost) ∧
    (8 ≤ s.events.queue.length → t.events.queue = s.events.queue ∧ t.events.lost = true) ∧
    ∀ other : EventKind, t.events.summary.getLsbD (kindNumber other - 1) =
      (s.events.summary.getLsbD (kindNumber other - 1) || decide (other = kind))

/-- R173, R192, R204: POP_EVENT is refused with EMPTY on an empty queue, and else removes the oldest entry and returns its
fifteen bytes. -/
def Obligations.PopEventReturnsTheOldestEntry : Prop :=
  ∀ s : State, s.rstLow = false →
    (s.events.queue = [] → exec .popEvent s = .next { s with link := answered (.refused .empty) [] }) ∧
    ∀ (e : Event) (rest : List Event), s.events.queue = e :: rest →
      let presence : BitVec 8 :=
        BitVec.ofNat 8 ((if e.address.isSome then 1 else 0) + (if e.requester.isSome then 2 else 0) +
          (if e.detail ≠ .absent ∧ e.detail ≠ .header then 4 else 0) + (if e.detail = .header then 8 else 0))
      let results := [BitVec.ofNat 8 (kindNumber e.kind), presence] ++ be32 e.epoch ++ be32 (e.address.getD 0) ++
        [BitVec.ofNat 8 ((e.requester.map Fin.val).getD 0)] ++ be32 (detailNumber e.detail)
      results.length = 15 ∧
        exec .popEvent s = .next
          { s with events := { s.events with queue := rest }, link := answered .done results }

/-- R175: CLEAR_SUMMARY empties the summary and clears the lost flag, and leaves the queue. Together with a posting the order
decides the summary, and a kept entry is found in either order. -/
def Obligations.ClearSummaryClearsSummaryAndLost : Prop :=
  ∀ s : State, s.rstLow = false →
    exec .clearSummary s = .next
      { s with events := { s.events with lost := false, summary := 0 }, link := answered .done [] } ∧
    ∀ (kind : EventKind) (address : Option (BitVec 32)) (requester : Option Requester) (detail : Detail) (t u : State),
      exec .clearSummary s = .next t → exec .clearSummary (s.post kind address requester detail) = .next u →
      let v := t.post kind address requester detail
      u.events.summary = 0 ∧ u.events.lost = false ∧
      (∀ other, v.events.summary.getLsbD (kindNumber other - 1) = decide (other = kind)) ∧
      v.events.lost = decide (8 ≤ s.events.queue.length) ∧ u.events.queue = v.events.queue ∧ u.attn = v.attn

/-- R167, R168, R169, R97: FREEZE sets the flag and changes nothing else; THAW clears a set flag and returns every entry HELD
for FREEZE to ORDERED, its hold timer dropped; with the flag clear THAW changes nothing. -/
def Obligations.FreezeAndThawMoveTheFlag : Prop :=
  ∀ s : State, s.rstLow = false →
    exec .freeze s = .next { s with log := { s.log with freeze := true }, link := answered .done [] } ∧
    (s.log.freeze = false → exec .thaw s = .next { s with link := answered .done [] }) ∧
    (s.log.freeze = true → exec .thaw s = .next
      { s with
        log := { s.log with freeze := false }
        window := s.window.map fun e =>
          match e.phase with
          | .held .freeze _ => { e with phase := .ordered }
          | _ => e
        link := answered .done [] })

/-- R161, R163, R164, R166: a FAULT strobe posts FAULT_SEEN with the action in force and then applies the action by engine
state. In ARMED under FREEZE_ROLLBACK it accepts a rollback exactly as the command of depth 0 does, without its link
response. -/
def Obligations.FaultStrobeAppliesTheAction : Prop :=
  ∀ s : State, s.rstLow = false →
    let seen := s.events.post
      { kind := .faultSeen, epoch := s.log.currentEpoch, address := none, requester := none,
        detail := .action s.log.policy.faultAction }
    let frozen := { s.log with freeze := true }
    ((s.log.engine = .detached ∨ s.log.policy.faultAction = .ignore) →
      exec .faultStrobe s = .next { s with events := seen }) ∧
    (s.log.engine ≠ .detached → s.log.policy.faultAction = .freeze →
      exec .faultStrobe s = .next { s with events := seen, log := frozen }) ∧
    (s.log.engine = .logFault → s.log.policy.faultAction = .freezeRollback →
      exec .faultStrobe s = .next
        { s with
          log := frozen
          events := seen.post
            { kind := .faultDropped, epoch := s.log.currentEpoch, address := none, requester := none,
              detail := .prevented .logFault } }) ∧
    (s.log.engine ∉ [EngineState.detached, .armed, .logFault] → s.log.policy.faultAction = .freezeRollback →
      exec .faultStrobe s = .next { s with events := seen, log := { frozen with faultLatch := true } }) ∧
    (s.log.engine = .armed → s.log.policy.faultAction = .freezeRollback → s.log.marks ≠ [] →
      ∃ t : State, exec (.rollback 0) { s with events := seen, log := frozen } = .next t ∧
        exec .faultStrobe s = .next { t with link := s.link })

/-! ## Management link -/

/-- R185: NOP is answered DONE in every engine state and does nothing else. -/
def Obligations.NopOnlyAnswersDone : Prop :=
  ∀ s : State, s.rstLow = false → exec .nop s = .next { s with link := answered .done [] }

/-- R133, R189, R190, R191, R203: READ_STATUS answers with the 21 bytes of the status as they stand; READ_REGION and
READ_MARK return the fields of the entry or mark named, or RANGE where there is none. They change nothing else. Throughout
SCANNING the mark count is 0 and every mark index is refused; that current epoch and used bytes are then 0 as well is the
model's (assumption 28). -/
def Obligations.ReadCommandsReturnTheFields : Prop :=
  (∀ s : State, s.rstLow = false →
    let flags : BitVec 8 :=
      BitVec.ofNat 8 ((if s.log.freeze then 1 else 0) + (if s.events.lost then 2 else 0) +
        (if s.log.checkpointLatch then 4 else 0) + (if s.log.faultLatch then 8 else 0))
    let slots := s.staging.runSlots.length + (if s.staging.filler = none then 0 else 1)
    let marks := if s.log.engine = .scanning then [] else s.log.marks
    let used := if marks = [] then 0 else s.log.usedSpace
    let results := [engineCode s.log.engine, flags, BitVec.ofNat 8 marks.length, BitVec.ofNat 8 s.window.length,
      BitVec.ofNat 8 slots, BitVec.ofNat 8 s.events.queue.length] ++ be32 (newestEpoch marks) ++
      be32 (BitVec.ofNat 32 used) ++ be32 (BitVec.ofNat 32 s.log.ringSize) ++
      [s.events.summary.extractLsb' 16 8, s.events.summary.extractLsb' 8 8, s.events.summary.extractLsb' 0 8]
    results.length = 21 ∧ exec .readStatus s = .next { s with link := answered .done results }) ∧
  ∀ (s : State) (index : BitVec 8), s.rstLow = false →
    (∀ h : index.toNat < 16,
      let r := s.regions[index.toNat]
      exec (.readRegion index) s = .next
        { s with
          link := answered .done ([flagByte r.valid, modeCode r.mode, BitVec.ofNat 8 r.mask.toNat] ++ be32 r.base ++
            be32 (BitVec.ofNat 32 r.size)) }) ∧
    (16 ≤ index.toNat → exec (.readRegion index) s = .next { s with link := answered (.refused .range) [] }) ∧
    (s.log.engine ≠ .scanning → ∀ h : index.toNat < s.log.marks.length,
      let m := s.log.marks[index.toNat]
      exec (.readMark index) s = .next
        { s with
          link := answered .done (be32 m.epoch ++ be32 m.firstSeq ++ be32 (BitVec.ofNat 32 m.offset) ++
            be32 m.duration ++ [BitVec.ofNat 8 m.back, flagByte m.recovered]) }) ∧
    ((s.log.engine = .scanning ∨ s.log.marks.length ≤ index.toNat) →
      exec (.readMark index) s = .next { s with link := answered (.refused .range) [] })

/-- R81, R190, R203: SET_REGION is tested in the order STATE, RANGE, OVERLAP, IN_USE, and an accepted one replaces the whole
entry and sets it valid. -/
def Obligations.SetRegionIsTestedInOrder : Prop :=
  ∀ (s : State) (index : BitVec 8) (base size : BitVec 32) (mode mask : BitVec 8), s.rstLow = false →
    let refused (reason : CommandRefusal) := exec (.setRegion index base size mode mask) s =
      .next { s with link := answered (.refused reason) [] }
    let rollsBack := s.log.engine = .quiescing ∨ s.log.engine = .rollingBack ∨ s.log.engine = .halted
    let outside := 16 ≤ index.toNat ∨ base.toNat % 4096 ≠ 0 ∨ size = 0 ∨ size.toNat % 4096 ≠ 0 ∨
      2 ^ 32 < base.toNat + size.toNat ∨ 2 ≤ mode.toNat ∨ 16 ≤ mask.toNat
    let meets (start length : Nat) := base.toNat < start + length ∧ start < base.toNat + size.toNat
    let overlaps :=
      (∃ j : Fin 16, j.val ≠ index.toNat ∧ s.regions[j].valid = true ∧
        meets s.regions[j].base.toNat s.regions[j].size) ∨
      (mode = 1 ∧ ∃ area, s.log.area = some area ∧ meets area.base.toNat area.size)
    let inUse := ∃ e ∈ s.window, ∃ snap, e.snapshot = some snap ∧ snap.index.val = index.toNat ∧
      ((∃ run ∈ e.runs, run.isReading = true ∨ run.isDeferred = true ∨ run.isAbandoned = true) ∨
        e.waits.hit ≠ none ∨ e.waits.own ≠ none)
    (rollsBack → refused .state) ∧
    (¬rollsBack → outside → refused .range) ∧
    (¬rollsBack → ¬outside → overlaps → refused .overlap) ∧
    (¬rollsBack → ¬outside → ¬overlaps → inUse → refused .inUse) ∧
    (¬rollsBack → ¬outside → ¬overlaps → ¬inUse → ∃ h : index.toNat < 16,
      exec (.setRegion index base size mode mask) s = .next
        { s with
          regions := s.regions.set index.toNat
            { valid := true, base := base, size := size.toNat, mode := if mode = 1 then .logged else .pass,
              mask := BitVec.ofNat 4 mask.toNat }
          link := answered .done [] })

/-- R83, R190: CLEAR_REGION is tested in the order STATE, RANGE, IN_USE, and an accepted one makes the entry invalid with the
values of R78. -/
def Obligations.ClearRegionIsTestedInOrder : Prop :=
  ∀ (s : State) (index : BitVec 8), s.rstLow = false →
    let refused (reason : CommandRefusal) :=
      exec (.clearRegion index) s = .next { s with link := answered (.refused reason) [] }
    let rollsBack := s.log.engine = .quiescing ∨ s.log.engine = .rollingBack ∨ s.log.engine = .halted
    let inUse := ∃ e ∈ s.window, ∃ snap, e.snapshot = some snap ∧ snap.index.val = index.toNat ∧
      ((∃ run ∈ e.runs, run.isReading = true ∨ run.isDeferred = true ∨ run.isAbandoned = true) ∨
        e.waits.hit ≠ none ∨ e.waits.own ≠ none)
    (rollsBack → refused .state) ∧
    (¬rollsBack → 16 ≤ index.toNat → refused .range) ∧
    (¬rollsBack → index.toNat < 16 → inUse → refused .inUse) ∧
    (¬rollsBack → ¬inUse → ∀ h : index.toNat < 16, exec (.clearRegion index) s = .next
      { s with
        regions := s.regions.set index.toNat { valid := false, base := 0, size := 0, mode := .pass, mask := 0 }
        link := answered .done [] })

/-- R196, R197, R203: SET_POLICY outside its ranges is refused with RANGE; inside them it takes all seven settings
together, and READ_POLICY then returns the very bytes given, changing nothing. A changed prescaler returns the tick count
to 0; the counter and the fired indication stay. With the log-full policy and the threshold unchanged nothing else
changes; a changed one may act by a walk and by the low-space comparison, and no block outside their reach changes.
Model's choice: the walk is made within the step (assumption 11). -/
def Obligations.SetPolicyIsReadBackByReadPolicy : Prop :=
  ∀ (s : State) (logFull fault : BitVec 8) (hold : BitVec 16) (threshold : BitVec 8) (prescaler : BitVec 16)
    (reference : BitVec 32) (timer : BitVec 8), s.rstLow = false →
    let command : Instr := .setPolicy logFull fault hold threshold prescaler reference timer
    let inRange := logFull.toNat ≤ 1 ∧ fault.toNat ≤ 2 ∧ timer.toNat ≤ 2 ∧ threshold.toNat ≤ 100 ∧
      1 ≤ prescaler.toNat ∧ prescaler.toNat ≤ 256
    (¬inRange → exec command s = .next { s with link := answered (.refused .range) [] }) ∧
    (inRange → ∃ t : State, exec command s = .next t ∧ t.link = answered .done [] ∧
      t.log.policy.threshold = threshold.toNat ∧ t.log.policy.prescaler = prescaler.toNat ∧
      t.log.policy.holdLimit = hold ∧ t.log.policy.reference = reference ∧
      t.log.timer = { s.log.timer with
        ticks := if s.log.policy.prescaler = prescaler.toNat then s.log.timer.ticks else 0 } ∧
      (s.log.policy.logFull = t.log.policy.logFull → s.log.policy.threshold = threshold.toNat →
        t = { s with log := { s.log with policy := t.log.policy, timer := t.log.timer }, link := t.link }) ∧
      t = { s with
        window := t.window
        capture := { s.capture with walkOwed := t.capture.walkOwed }
        staging := { s.staging with runSlots := t.staging.runSlots }
        stream := t.stream
        log := { s.log with
          policy := t.log.policy, timer := t.log.timer, marks := t.log.marks, tail := t.log.tail
          generation := t.log.generation, reserved := t.log.reserved
          lowSpace := t.log.lowSpace, logFull := t.log.logFull }
        events := t.events
        link := t.link } ∧
      exec .readPolicy t = .next
        { t with
          link := answered .done ([logFull, fault] ++ be16 hold ++ [threshold] ++ be16 prescaler ++ be32 reference ++
            [timer]) })

/-- R127, R128: SET_LOG is tested in the order STATE, RANGE, OVERLAP, and an accepted one replaces the log area setting and
nothing else; S becomes size − 512. -/
def Obligations.SetLogIsTestedInOrder : Prop :=
  ∀ (s : State) (base size : BitVec 32), s.rstLow = false →
    let refused (reason : CommandRefusal) :=
      exec (.setLog base size) s = .next { s with link := answered (.refused reason) [] }
    let outside := base.toNat % 4096 ≠ 0 ∨ size.toNat < 16384 ∨ 67108864 < size.toNat ∨ size.toNat % 4096 ≠ 0 ∨
      2 ^ 32 < base.toNat + size.toNat
    let overlaps := ∃ j : Fin 16, s.regions[j].valid = true ∧ s.regions[j].mode = .logged ∧
      base.toNat < s.regions[j].base.toNat + s.regions[j].size ∧ s.regions[j].base.toNat < base.toNat + size.toNat
    (s.log.engine ≠ .detached → refused .state) ∧
    (s.log.engine = .detached → outside → refused .range) ∧
    (s.log.engine = .detached → ¬outside → overlaps → refused .overlap) ∧
    (s.log.engine = .detached → ¬outside → ¬overlaps →
      let log := { s.log with area := some { base := base, size := size.toNat } }
      log.ringSize = size.toNat - 512 ∧
        exec (.setLog base size) s = .next { s with log := log, link := answered .done [] })

/-- R32, R34, R44, R46, R103, R129, R133, R143, R188: the commands that start long operations are refused with BUSY while one
is in flight and with STATE in the other states that do not allow them; DISCARD and DETACH are allowed in HALTED. -/
def Obligations.LongOperationsAreRefusedByEngineState : Prop :=
  ∀ (s : State) (n d : BitVec 8), s.rstLow = false →
    let inFlight := s.log.engine ∉ [EngineState.detached, .armed, .logFault]
    let refused (c : Instr) (reason : CommandRefusal) := exec c s = .next { s with link := answered (.refused reason) [] }
    (∀ c ∈ [Instr.format, .attach, .checkpoint, .release n, .rollback d], inFlight → refused c .busy) ∧
    (∀ c ∈ [Instr.discard, .detach], inFlight → s.log.engine ≠ .halted → refused c .busy) ∧
    (∀ c ∈ [Instr.format, .attach], (s.log.engine = .armed ∨ s.log.engine = .logFault) → refused c .state) ∧
    (∀ c ∈ [Instr.checkpoint, .release n, .rollback d],
      (s.log.engine = .detached ∨ s.log.engine = .logFault) → refused c .state) ∧
    (∀ c ∈ [Instr.discard, .detach], s.log.engine = .detached → refused c .state) ∧
    (∀ c ∈ [Instr.format, .attach], s.log.engine = .detached → s.log.area = none → refused c .noLogArea) ∧
    (s.log.engine = .armed → (n.toNat = 0 ∨ s.log.marks.length ≤ n.toNat) → refused (.release n) .range) ∧
    (s.log.engine = .armed → s.log.marks.length ≤ d.toNat → refused (.rollback d) .range)

/-! ## FORMAT, ATTACH and DETACH -/

/-- R129, R130, R131, R133, R134, R193: FORMAT and ATTACH in DETACHED with the log area set are answered STARTED. FORMAT sets
the values of a log with one empty epoch and offers copy B with generation 0; ATTACH opens the scan cursor and offers the
read of copy A. -/
def Obligations.FormatAndAttachStart : Prop :=
  ∀ (s : State) (area : LogArea), s.rstLow = false → s.log.engine = .detached → s.log.area = some area →
    (∃ t : State, exec .format s = .next t ∧
      t = { s with log := t.log, maintOffer := t.maintOffer, link := answered .started [] } ∧
      t.log = { s.log with
        engine := .formatting, nextEpoch := 2, nextSeq := 1,
        marks := [{ epoch := 1, firstSeq := 1, offset := 0, back := 0, duration := 0, recovered := false }],
        tail := 0, writePos := 0, durableHead := 0, lastLength := 0, reserved := 0, generation := 1, lowSpace := false,
        logFull := false, timer := { ticks := 0, counter := 0, fired := false, due := none } } ∧
      t.maintOffer = some
        { step := .formatCopy .b
          request := { kind := .write, address := area.base + 256, length := 256, enables := none,
                       data := copyBytes (t.log.headerCopy 0) } }) ∧
    exec .attach s = .next
      { s with
        log := { s.log with
          engine := .scanning, timer := { ticks := 0, counter := 0, fired := false, due := none } }
        scan := some
          { step := .header, copyA := none, chosen := none, working := [], workingTail := 0, position := 0,
            expected := 0, lastLength := 0, found := 0, highest := 0, examined := none }
        maintOffer := some
          { step := .attachHeader .a
            request := { kind := .read, address := area.base, length := 256, enables := none, data := [] } }
        link := answered .started [] }

/-- R33, R92, R98, R131, R132, R155, R166, R207: the response to a FORMAT copy write. After copy B, copy A with generation 1
is offered. After copy A, FORMAT_DONE is posted, the state becomes ARMED with the log as it was set, and every logged write
in ORDERED or READY is refused, with one REFUSED event each in window order; then the latches act and a walk is made. An
ERROR posts ATTACH_FAILED, drops a latched fault and gives the log up in DETACHED. Model's choice: the walk
is made within the step (assumption 11), and FAULT_DROPPED comes second, with epoch 0 (assumption 25). -/
def Obligations.FormatCopyResponseCarriesFormatOn : Prop :=
  ∀ (s : State) (o : Outstanding) (rest : List Outstanding) (copy : CopyName) (area : LogArea),
    s.port.outstanding = o :: rest → o.orphan = false → o.owner = .maint (.formatCopy copy) →
    s.log.engine = .formatting → s.log.area = some area →
    let taken := { s.port with outstanding := rest }
    let cancelled (e : Entry) := e.isLoggedWrite ∧ (e.phase = .ordered ∨ e.phase = .ready)
    (copy = .b → exec (.formatCopyWriteResponse .okay) s = .next
      { s with
        port := taken
        maintOffer := some
          { step := .formatCopy .a
            request := { kind := .write, address := area.base, length := (copyBytes (s.log.headerCopy 1)).length,
                         enables := none, data := copyBytes (s.log.headerCopy 1) } } }) ∧
    (copy = .a → ∃ u t : State, exec (.formatCopyWriteResponse .okay) s = .next t ∧ ReturnsToArmed u t ∧
      u = { s with
        port := { taken with bypass := u.port.bypass }, host := { s.host with offered := u.host.offered }
        log := { s.log with engine := .armed, reserved := u.log.reserved }
        staging := { s.staging with runSlots := u.staging.runSlots }
        capture := { s.capture with walkOwed := u.capture.walkOwed }
        events := refusalEvents s.log.currentEpoch .cancelled (s.window.filter fun e => decide (cancelled e))
          (s.events.post
            { kind := .formatDone, epoch := s.log.currentEpoch, address := none, requester := none, detail := .absent })
        window := s.window.map fun e =>
          if cancelled e then
            { e with phase := .done .refused [], runs := abandonRuns e.runs, waits := { hit := none, own := none },
                     payload := [] }
          else e }) ∧
    (let failed := s.events.post
      { kind := .attachFailed, epoch := s.log.currentEpoch, address := some (s.log.copyAddress copy),
        requester := none, detail := .attachFailure .write }
    exec (.formatCopyWriteResponse .error) s = .next
      { s with
        port := taken
        events :=
          if s.log.faultLatch then failed.post
            { kind := .faultDropped, epoch := 0, address := none, requester := none, detail := .prevented .detached }
          else failed
        log := { s.log with
          engine := .detached, faultLatch := false, marks := [], tail := 0, writePos := 0, durableHead := 0,
          lastLength := 0, nextSeq := 0, nextEpoch := 0, generation := 0, reserved := 0, lowSpace := false,
          logFull := false, timer := { ticks := 0, counter := 0, fired := false, due := none } } })

/-- R134, R135, R141: the response to an attach header read. After copy A the read of copy B is offered; after copy B the
valid copy with the higher generation, or copy A, or the only valid one is chosen, and the walk starts from its newest mark;
with no valid copy or an ERROR the attach fails in DETACHED. -/
def Obligations.AttachHeaderResponseChoosesTheCopy : Prop :=
  ∀ (s : State) (o : Outstanding) (rest : List Outstanding) (c : ScanCursor) (copy : CopyName) (area : LogArea)
    (bytes : List Byte), s.port.outstanding = o :: rest → o.orphan = false → o.owner = .maint (.attachHeader copy) →
    o.request.kind = .read → o.request.length = 256 → bytes.length = 256 → s.scan = some c → s.log.area = some area →
    let taken := { s.port with outstanding := rest }
    let other := validCopy s.log.ringSize .b bytes
    let choose (chosen : HeaderCopy) :=
      ∀ m, chosen.marks.getLast? = some m → ∀ oldest, chosen.marks.head? = some oldest →
        exec (.attachHeaderReadResponse (.okay bytes)) s = .next
          { s with
            port := taken
            scan := some
              { step := .walk, copyA := none, chosen := some chosen, working := chosen.marks,
                workingTail := oldest.offset, position := m.offset, expected := m.firstSeq, lastLength := m.back,
                found := 0, highest := m.epoch, examined := none }
            maintOffer := some
              { step := .walkHeader
                request := { kind := .read, address := area.base + BitVec.ofNat 32 (512 + m.offset), length := 16,
                             enables := none, data := [] } } }
    let failed (address : Option (BitVec 32)) (reason : AttachFailure) : State :=
      { s with
        port := taken, scan := none, log := { s.log with engine := .detached }
        events := s.events.post
          { kind := .attachFailed, epoch := s.log.currentEpoch, address := address, requester := none,
            detail := .attachFailure reason } }
    (copy = .a → exec (.attachHeaderReadResponse (.okay bytes)) s = .next
      { s with
        port := taken, scan := some { c with copyA := validCopy s.log.ringSize .a bytes }
        maintOffer := some
          { step := .attachHeader .b
            request := { kind := .read, address := area.base + 256, length := 256, enables := none, data := [] } } }) ∧
    (copy = .b → ∀ a b, c.copyA = some a → other = some b → b.generation.toNat ≤ a.generation.toNat → choose a) ∧
    (copy = .b → ∀ a b, c.copyA = some a → other = some b → a.generation.toNat < b.generation.toNat → choose b) ∧
    (copy = .b → ∀ a, c.copyA = some a → other = none → choose a) ∧
    (copy = .b → ∀ b, c.copyA = none → other = some b → choose b) ∧
    (copy = .b → c.copyA = none → other = none → s.log.faultLatch = false →
      exec (.attachHeaderReadResponse (.okay bytes)) s = .next (failed none .noLog)) ∧
    (s.log.faultLatch = false →
      exec (.attachHeaderReadResponse .error) s = .next
        (failed (some (if copy = .a then area.base else area.base + 256)) .read))

/-- R136, R137, R138, R139, R200: the walk of an attach. A DATA header that passes the header tests is followed by the
read of the whole record at the same address, and the record is accepted when its check code is right. A FILLER that passes
them is accepted, or not, by its check code at once, with no second read. An accepted record moves the cursor past it; one of
a new epoch has its mark rebuilt, the oldest of 8 marks dropped for it with EPOCH_DROPPED; and the next header is read. A
header that fails any test, and a wrong check code, stop the walk exactly as an ERROR of that read does. Model's choice: the
record's fields are those of its first read (assumption 14). -/
def Obligations.WalkAcceptsTheCheckedRecord : Prop :=
  let accepted (s : State) (rest : List Outstanding) (c : ScanCursor) (h : RecordHeader) (newest : Mark) (length : Nat) :
      State :=
    let begins := below newest.epoch h.epoch = true
    let full := begins ∧ 8 ≤ c.working.length
    let rebuilt : Mark :=
      { epoch := h.epoch, firstSeq := h.seq, offset := c.position, back := h.back, duration := 0, recovered := true }
    let kept := if full then c.working.drop 1 else c.working
    let working := if begins then kept ++ [rebuilt] else kept
    let position := (c.position + length) % s.log.ringSize
    { s with
      port := { s.port with outstanding := rest }
      scan := some
        { c with
          step := .walk, working := working, workingTail := oldestOffset working, found := c.found + 1,
          highest := if below c.highest h.epoch then h.epoch else c.highest, expected := c.expected + 1,
          lastLength := length / 16, position := position, examined := none }
      events :=
        if full then s.events.post
          { kind := .epochDropped, epoch := s.log.currentEpoch, address := none, requester := none,
            detail := .number (oldestEpoch c.working) }
        else s.events
      maintOffer := some
        { step := .walkHeader
          request := { kind := .read, address := s.log.ringAddress position, length := 16, enables := none,
                       data := [] } } }
  (∀ (s : State) (o : Outstanding) (rest : List Outstanding) (c : ScanCursor) (area : LogArea) (newest : Mark)
    (bytes : List Byte), s.port.outstanding = o :: rest → o.orphan = false → o.owner = .maint .walkHeader →
    o.request.kind = .read → o.request.length = 16 → bytes.length = 16 → s.scan = some c → s.log.area = some area →
    c.working.getLast? = some newest →
    let h := parseHeader bytes
    let S := area.size - 512
    let fits (length : Nat) := ringSub S c.position c.workingTail + length + 16 ≤ S
    let common := h.seq = c.expected ∧ below h.epoch newest.epoch = false ∧ h.back = c.lastLength ∧
      byteAt bytes 13 &&& 0xCC = 0
    let data := h.kind = .data ∧ 1 ≤ h.count ∧ h.count ≤ 4 ∧ c.position + 16 + 32 * h.count ≤ S ∧
      h.first.toNat % 32 = 0 ∧ h.first.toNat % 128 + 32 * h.count ≤ 128 ∧
      (h.first.toNat + 32 * h.count ≤ area.base.toNat ∨ area.base.toNat + area.size ≤ h.first.toNat) ∧
      fits (16 + 32 * h.count)
    let filler := h.kind = .filler ∧ h.count = 0 ∧ h.poison = false ∧ h.first = 0 ∧ S - c.position ≤ 128 ∧
      fits (S - c.position)
    let right := crc16 (bytes.take 14) = h.check
    (common → data → exec (.walkHeaderReadResponse (.okay bytes)) s = .next
      { s with
        port := { s.port with outstanding := rest }
        scan := some { c with examined := some h }
        maintOffer := some
          { step := .walkRecord
            request := { kind := .read, address := area.base + BitVec.ofNat 32 (512 + c.position),
                         length := 16 + 32 * h.count, enables := none, data := [] } } }) ∧
    (common → filler → right → exec (.walkHeaderReadResponse (.okay bytes)) s = .next
      (accepted s rest c h newest (S - c.position))) ∧
    (¬(common ∧ (data ∨ filler ∧ right)) →
      exec (.walkHeaderReadResponse (.okay bytes)) s = exec (.walkHeaderReadResponse .error) s)) ∧
  ∀ (s : State) (o : Outstanding) (rest : List Outstanding) (c : ScanCursor) (h : RecordHeader) (newest : Mark)
    (bytes : List Byte), s.port.outstanding = o :: rest → o.orphan = false → o.owner = .maint .walkRecord →
    o.request.kind = .read → bytes.length = o.request.length → s.scan = some c → c.examined = some h →
    h.kind = .data → c.working.getLast? = some newest →
    let right := crc16 (bytes.take 14 ++ bytes.drop 16) = readLe16 bytes 14
    (right → exec (.walkRecordReadResponse (.okay bytes)) s = .next (accepted s rest c h newest (16 + 32 * h.count))) ∧
    (¬right → exec (.walkRecordReadResponse (.okay bytes)) s = exec (.walkRecordReadResponse .error) s)

/-- R12, R136, R139, R140: an ERROR on a walk read stops the walk, and the attach is completed from the records accepted: the
numbering floors; a resumption mark where the copy's next sequence is the greater, the oldest of 8 marks dropped for it with
EPOCH_DROPPED; the log taken up, the low-space comparison, and the header write placed. Model's choice: events posted in
SCANNING carry epoch 0 (assumption 28). -/
def Obligations.WalkStopCompletesTheAttach : Prop :=
  ∀ (s : State) (o : Outstanding) (rest : List Outstanding) (c : ScanCursor) (chosen : HeaderCopy) (command : Instr),
    s.port.outstanding = o :: rest → o.orphan = false →
    ((o.owner = .maint .walkHeader ∧ command = .walkHeaderReadResponse .error) ∨
      (o.owner = .maint .walkRecord ∧ command = .walkRecordReadResponse .error ∧ c.examined ≠ none)) →
    s.scan = some c → c.chosen = some chosen → s.stream = [] →
    let resumes := below c.expected chosen.nextSeq = true
    let full := resumes ∧ 8 ≤ c.working.length
    let floorSeq := if resumes then chosen.nextSeq else c.expected
    let floorEpoch := if below chosen.nextEpoch (c.highest + 1) then c.highest + 1 else chosen.nextEpoch
    let resumption : Mark :=
      { epoch := floorEpoch, firstSeq := floorSeq, offset := c.position, back := c.lastLength, duration := 0,
        recovered := false }
    let kept := if full then c.working.drop 1 else c.working
    let marks := if resumes then kept ++ [resumption] else kept
    let u := State.compareLowSpace
      { s with
        port := { s.port with outstanding := rest }
        events :=
          if full then s.events.post
            { kind := .epochDropped, epoch := s.log.currentEpoch, address := none, requester := none,
              detail := .number (oldestEpoch c.working) }
          else s.events
        log := { s.log with
          marks := marks, tail := oldestOffset marks, writePos := c.position, durableHead := c.position,
          lastLength := c.lastLength, nextSeq := floorSeq,
          nextEpoch := if resumes then floorEpoch + 1 else floorEpoch, generation := chosen.generation, reserved := 0,
          logFull := false, lowSpace := false } }
    exec command s = .next
      { u with
        log := { u.log with generation := chosen.generation + 1 }
        stream := [{ body := .header .attach (u.log.headerCopy (chosen.generation + 1)), issued := false }]
        scan := some { c with step := .complete, working := marks, workingTail := oldestOffset marks, examined := none } }

/-- R72, R121, R143: DETACH in ARMED, HALTED or LOG_FAULT is answered STARTED; the state becomes DETACHING and a halted
rollback ends. In the window, ROLLBACK holds are released; a logged write HELD for FREEZE returns to ORDERED, and one in
capture loses its runs not yet granted and goes to READY, AWAIT_RECORD or CAPTURING by what is left. Nothing else changes. -/
def Obligations.DetachStopsGrantingSpace : Prop :=
  ∀ s : State, s.rstLow = false → s.log.engine ∈ [EngineState.armed, .halted, .logFault] →
    exec .detach s = .next
      { s with
        log := { s.log with engine := .detaching }
        rollback := none
        window := s.window.map fun e =>
          if e.heldFor .rollback then { e with phase := .ordered }
          else if e.isLoggedWrite ∧ e.heldFor .freeze then { e with phase := .ordered }
          else if e.isLoggedWrite ∧ (e.phase = .capturing ∨ e.heldFor .space) then
            let runs := e.runs.filter fun r => !r.waiting
            let phase : Phase :=
              if ∃ r ∈ runs, r.isReading ∨ r.isDeferred then .capturing
              else if e.waits.hit = none ∧ e.waits.own = none then .ready
              else .awaitRecord
            { e with runs := runs, phase := phase }
          else e
        link := answered .started [] }

/-- R144, R145, R166: in DETACHING with staging and stream empty, DETACHED is entered: DETACH_DONE, the Capture Set, the marks,
the pointers and the counters cleared, the indications and the timer cleared, a latched fault dropped. The log area, the
policies and the freeze flag stay. Model's choice: FAULT_DROPPED comes second, with epoch 0 (assumption 25). -/
def Obligations.DetachCompletionGivesTheLogUp : Prop :=
  ∀ s : State, s.log.engine = .detaching → s.staging.runSlots = [] → s.staging.filler = none → s.stream = [] →
    let done := s.events.post
      { kind := .detachDone, epoch := s.log.currentEpoch, address := none, requester := none, detail := .absent }
    exec .detachComplete s = .next
      { s with
        events :=
          if s.log.faultLatch then done.post
            { kind := .faultDropped, epoch := 0, address := none, requester := none, detail := .prevented .detached }
          else done
        capture := { s.capture with set := [] }
        log := { s.log with
          engine := .detached, faultLatch := false, marks := [], tail := 0, writePos := 0, durableHead := 0,
          lastLength := 0, nextSeq := 0, nextEpoch := 0, generation := 0, reserved := 0, lowSpace := false,
          logFull := false, timer := { ticks := 0, counter := 0, fired := false, due := none } } }

/-! ## Checkpoints, releases, discards and the epoch timer -/

/-- R34, R35, R42, R172: a CHECKPOINT in ARMED is answered STARTED, and a CKPT strobe in ARMED starts the same operation
without a response: CHECKPOINTING, next epoch reserved and increased; nothing else changes. A strobe sets the
pending-checkpoint latch in CHECKPOINTING and UPDATING, and elsewhere posts CKPT_IGNORED with the detail LINE. -/
def Obligations.CheckpointAcceptanceReservesTheEpoch : Prop :=
  ∀ s : State, s.rstLow = false →
    (s.log.engine = .armed →
      let log := { s.log with
        engine := .checkpointing, reservedEpoch := some s.log.nextEpoch, nextEpoch := s.log.nextEpoch + 1 }
      exec .checkpoint s = .next { s with log := log, link := answered .started [] } ∧
      exec .ckptStrobe s = .next { s with log := log }) ∧
    (s.log.engine ∈ [EngineState.checkpointing, .updating] →
      exec .ckptStrobe s = .next { s with log := { s.log with checkpointLatch := true } }) ∧
    (s.log.engine ∉ [EngineState.armed, .checkpointing, .updating] →
      exec .ckptStrobe s = .next
        { s with
          events := s.events.post
            { kind := .checkpointIgnored, epoch := s.log.currentEpoch, address := none, requester := none,
              detail := .source .line } })

/-- R12, R36, R37, R38, R39, R65: the boundary of a checkpoint. The closing mark takes the timer's count; a full list loses
its oldest mark, with EPOCH_DROPPED and the low-space comparison; the new mark stands at the write position under the
reserved number; the Capture Set is cleared; the timer restarts; the header write with the new list is placed behind what the
stream held. Uncommitted entries of the closing epoch take the new tag and committed ones keep theirs; an uncommitted logged
write also restarts: wait list emptied, runs abandoned, ORDERED unless HELD for FREEZE. Then every deferred run becomes a
record, in the order of grant, exactly as the return of its capture read would now create it. Model's choice: "space freed"
makes a walk due (assumption 11). -/
def Obligations.BoundaryMakesTheNewMark : Prop :=
  (∀ (s : State) (reserved : BitVec 32) (older : List Mark) (closing : Mark),
    s.log.engine = .checkpointing → s.log.reservedEpoch = some reserved → s.log.marks = older ++ [closing] →
    older.length < 8 → headerWrites s.stream < 8 →
    (∀ e ∈ s.window, e.epoch = closing.epoch → ∀ r ∈ e.runs, r.isReading = false) →
    let closed := { closing with duration := s.log.timer.counter }
    let full := older.length = 7
    let kept := if full then older.drop 1 else older
    let opened : Mark :=
      { epoch := reserved, firstSeq := s.log.nextSeq, offset := s.log.writePos, back := s.log.lastLength, duration := 0,
        recovered := false }
    let dropped : State :=
      { s with
        log := { s.log with
          marks := kept ++ [closed], tail := if full then oldestOffset (kept ++ [closed]) else s.log.tail }
        events :=
          if full then s.events.post
            { kind := .epochDropped, epoch := closing.epoch, address := none, requester := none,
              detail := .number (oldestEpoch s.log.marks) }
          else s.events }
    let compared := if full then dropped.compareLowSpace else dropped
    let log := { compared.log with
      marks := kept ++ [closed, opened], tail := oldestOffset (kept ++ [closed, opened]), reservedEpoch := none
      timer := { ticks := 0, counter := 0, fired := false, due := none } }
    ∃ u t : State, exec .checkpointBoundary s = .next t ∧
      u = { s with
        log := { log with generation := s.log.generation + 1, reserved := u.log.reserved }
        events := compared.events
        capture := { s.capture with set := [], walkOwed := u.capture.walkOwed }
        staging := { s.staging with runSlots := u.staging.runSlots }
        stream := s.stream ++
          [{ body := .header .checkpoint (log.headerCopy (s.log.generation + 1)), issued := false }]
        window := s.window.map fun e =>
          if e.epoch = closing.epoch ∧ e.committed = false then
            if e.isLoggedWrite then
              { e with
                epoch := reserved, waits := { hit := none, own := none }, runs := abandonRuns e.runs
                phase := if e.heldFor .freeze then e.phase else .ordered }
            else { e with epoch := reserved }
          else e } ∧
      (∀ slot, slot ∈ u.staging.runSlots → slot ∈ s.staging.runSlots) ∧
      (let deferred := u.staging.runSlots.filterMap fun slot =>
        match slot with
        | .run id => if (u.findRun id).any fun p => p.2.isDeferred then some id else none
        | .record _ => none
      t = deferred.foldl State.createDeferred u) ∧
      t = { s with
        log := t.log, events := t.events, window := t.window, staging := t.staging, stream := t.stream
        capture := { s.capture with set := t.capture.set, walkOwed := t.capture.walkOwed } } ∧
      t.log = { s.log with
        marks := kept ++ [closed, opened], tail := oldestOffset (kept ++ [closed, opened]), reservedEpoch := none
        generation := s.log.generation + 1, timer := { ticks := 0, counter := 0, fired := false, due := none }
        nextSeq := t.log.nextSeq, writePos := t.log.writePos, lastLength := t.log.lastLength
        reserved := t.log.reserved, lowSpace := t.log.lowSpace } ∧
      ((∀ e ∈ s.window, ∀ r ∈ e.runs, r.isDeferred = false) → t = u) ∧
      t.log.currentEpoch = reserved ∧
      (∃ more, t.stream = u.stream ++ more ∧ ∀ i ∈ more, i.isHeader = false ∧ i.issued = false) ∧
      t.window.length = s.window.length ∧
      ∀ (k : Nat) (e e' : Entry), s.window[k]? = some e → t.window[k]? = some e' →
        e'.epoch = if e.epoch = closing.epoch ∧ e.committed = false then reserved else e.epoch) ∧
  ∀ (v : State) (id : Nat) (e : Entry) (run : Run) (poison : Bool) (data : List Byte), v.log.reservedEpoch = none →
    v.findRun id = some (e, run) → run.condition = .deferred poison data →
    let read : Outstanding :=
      { claimant := .capture, owner := .capture id, orphan := false
        request := { kind := .read, address := run.first, length := data.length, enables := none, data := [] } }
    exec (.captureReadResponse (if poison then .error else .okay data))
      { v with
        port := { v.port with outstanding := read :: v.port.outstanding }
        window := v.window.map fun x =>
          if x.requester = e.requester ∧ x.tag = e.tag then
            { x with runs := x.runs.map fun r => if r.id = id then { r with condition := .reading true } else r }
          else x } = .next (v.createDeferred id)

/-- R12, R15, R44, R63, R74: RELEASE n in ARMED with n from 1 to the mark count less one is answered STARTED: the n oldest
marks are dropped, the tail moves to the mark then oldest, low space is compared, and the walk of "space freed" is made,
which under RECYCLE may drop more (R15); then a header write is placed, or waits for room, under either policy, and the state
becomes UPDATING. The current epoch, the write position, the Capture Set and the epoch timer stay. Model's choice: the walk
is made within the step (assumption 11). -/
def Obligations.ReleaseDropsTheOldestMarks : Prop :=
  ∀ (s : State) (n : BitVec 8), s.rstLow = false → s.log.engine = .armed → 1 ≤ n.toNat →
    n.toNat < s.log.marks.length →
    let remaining := s.log.marks.drop n.toNat
    let dropped := State.compareLowSpace
      { s with log := { s.log with marks := remaining, tail := oldestOffset remaining }, link := answered .started [] }
    ∃ (u t : State) (more : Nat), Walks dropped u ∧ exec (.release n) s = .next t ∧
      (headerWrites u.stream < 8 → t =
        { u with
          log := { u.log with engine := .updating, generation := u.log.generation + 1 }
          stream := u.stream ++
            [{ body := .header .release (u.log.headerCopy (u.log.generation + 1)), issued := false }] }) ∧
      (8 ≤ headerWrites u.stream → t =
        { u with log := { u.log with engine := .updating, waitingHeader := some .release } }) ∧
      t.log.marks = s.log.marks.drop (n.toNat + more) ∧ t.log.marks ≠ [] ∧
      (s.log.policy.logFull = .wait → more = 0) ∧ t.log.tail = oldestOffset t.log.marks ∧
      t.log.engine = .updating ∧ t.link = answered .started [] ∧ t.log.currentEpoch = s.log.currentEpoch ∧
      t.log.writePos = s.log.writePos ∧ t.log.timer = s.log.timer ∧ t.capture.set = s.capture.set ∧
      t.regions = s.regions ∧ t.port = s.port ∧ t.host = s.host ∧
      (s.log.policy.logFull = .wait → u.stream = s.stream ∧ u.log.generation = s.log.generation)

/-- R46, R47: DISCARD in ARMED, HALTED or LOG_FAULT is answered STARTED: a halted rollback ends; the mark list becomes one new
mark at the write position under next epoch; the Capture Set is cleared; the timer restarts; the log-full indication is
cleared; the header write is placed or waits for room; the state becomes UPDATING. Committed entries keep all they have but
a wait for the rollback; every other entry takes the new tag. Model's choice: "space freed" makes a walk due, which
CAPTURE_WALK makes (assumption 11), and a timer firing still due goes with the restart (assumption 16). -/
def Obligations.DiscardOpensAFreshEpoch : Prop :=
  ∀ s : State, s.rstLow = false → s.log.engine ∈ [EngineState.armed, .halted, .logFault] →
    let opened : Mark :=
      { epoch := s.log.nextEpoch, firstSeq := s.log.nextSeq, offset := s.log.writePos, back := s.log.lastLength,
        duration := 0, recovered := false }
    ∃ t : State, exec .discard s = .next t ∧
      t = { s with
        link := answered .started [], rollback := none, log := t.log, events := t.events, window := t.window
        staging := { s.staging with runSlots := t.staging.runSlots }, stream := t.stream
        capture := { s.capture with set := [], walkOwed := true } } ∧
      t.log = { s.log with
        engine := .updating, marks := [opened], tail := s.log.writePos, nextEpoch := s.log.nextEpoch + 1
        timer := { ticks := 0, counter := 0, fired := false, due := none }, logFull := false
        reserved := t.log.reserved, lowSpace := t.log.lowSpace, generation := t.log.generation
        waitingHeader := t.log.waitingHeader } ∧
      (headerWrites s.stream < 8 →
        ∃ header, t.stream = s.stream ++ [{ body := .header .discard header, issued := false }] ∧
          header.marks = [opened] ∧ header.generation = s.log.generation + 1 ∧
          t.log.generation = s.log.generation + 1) ∧
      (8 ≤ headerWrites s.stream →
        t.stream = s.stream ∧ t.log.waitingHeader = some .discard ∧ t.log.generation = s.log.generation) ∧
      t.window = s.window.map fun e =>
        if e.committed then e
        else if e.isLoggedWrite then
          { e with
            epoch := s.log.nextEpoch, waits := { hit := none, own := none }, runs := abandonRuns e.runs
            phase := if e.heldFor .freeze then e.phase else .ordered }
        else { e with epoch := s.log.nextEpoch, phase := if e.heldFor .rollback then .ordered else e.phase }

/-- R50, R52, R95: a tick. In DETACHED, FORMATTING and SCANNING the epoch timer is held at 0; in every other state the
tick count increases, and at the prescaler returns to 0 with the counter increased unless it is at its maximum; a firing
falls due when the counter is increased to a non-zero reference with the fired indication clear. Every hold timer counts.
Model's choice: a firing that has fallen due is kept until EPOCH_TIMER makes it (assumption 16). -/
def Obligations.TickCountsTheTimers : Prop :=
  ∀ s : State,
    let held := s.window.map fun e =>
      match e.phase with
      | .held cause timer => { e with phase := .held cause { timer with elapsed := timer.elapsed + 1 } }
      | _ => e
    let t := s.log.timer
    let next (timer : EpochTimer) := exec .tick s = .next { s with log := { s.log with timer := timer }, window := held }
    let idle := s.log.engine = .detached ∨ s.log.engine = .formatting ∨ s.log.engine = .scanning
    (idle → next { ticks := 0, counter := 0, fired := false, due := none }) ∧
    (¬idle → t.ticks + 1 < s.log.policy.prescaler → next { t with ticks := t.ticks + 1 }) ∧
    (¬idle → s.log.policy.prescaler ≤ t.ticks + 1 → t.counter = 0xFFFFFFFF → next { t with ticks := 0 }) ∧
    (¬idle → s.log.policy.prescaler ≤ t.ticks + 1 → t.counter ≠ 0xFFFFFFFF → t.due = none →
      let fires := s.log.policy.reference ≠ 0 ∧ t.counter + 1 = s.log.policy.reference ∧ t.fired = false
      (fires → next { t with ticks := 0, counter := t.counter + 1, due := some (t.counter + 1) }) ∧
      (¬fires → next { t with ticks := 0, counter := t.counter + 1 }))

/-- R52, R42, R172: a firing of the epoch timer sets the fired indication and posts EPOCH_TIMER with the counter value;
then EVENT does nothing more, FREEZE sets the freeze flag, and CHECKPOINT acts as a CKPT strobe of source TIMER. Model's
choice: a firing that has fallen due is kept until this row makes it (assumption 16). -/
def Obligations.EpochTimerFires : Prop :=
  ∀ (s : State) (count : BitVec 32), s.log.timer.due = some count →
    let fired := s.events.post
      { kind := .epochTimer, epoch := s.log.currentEpoch, address := none, requester := none, detail := .number count }
    let log := { s.log with timer := { s.log.timer with fired := true, due := none } }
    (s.log.policy.timerAction = .event → exec .epochTimer s = .next { s with events := fired, log := log }) ∧
    (s.log.policy.timerAction = .freeze →
      exec .epochTimer s = .next { s with events := fired, log := { log with freeze := true } }) ∧
    (s.log.policy.timerAction = .checkpoint →
      (s.log.engine = .armed → exec .epochTimer s = .next
        { s with
          events := fired
          log := { log with
            engine := .checkpointing, reservedEpoch := some s.log.nextEpoch, nextEpoch := s.log.nextEpoch + 1 } }) ∧
      (s.log.engine ∈ [EngineState.checkpointing, .updating] → exec .epochTimer s = .next
        { s with events := fired, log := { log with checkpointLatch := true } }) ∧
      (s.log.engine ∉ [EngineState.armed, .checkpointing, .updating] → exec .epochTimer s = .next
        { s with
          log := log
          events := fired.post
            { kind := .checkpointIgnored, epoch := s.log.currentEpoch, address := none, requester := none,
              detail := .source .timer } }))

/-! ## The log stream and the Log Writer -/

/-- R18, R61, R68: an OKAY response to a record's write persists the record: it leaves the stream, its staging slot is freed,
durable head moves past it, its number leaves every wait list, and an entry in AWAIT_RECORD whose list is empty goes to
READY. Model's choice: the walk for the freed slot is made by CAPTURE_WALK (assumption 11). -/
def Obligations.RecordWriteOkayPersistsTheRecord : Prop :=
  ∀ (s : State) (o : Outstanding) (rest : List Outstanding) (r : Record) (before behind : List StreamItem),
    s.port.outstanding = o :: rest → o.orphan = false → o.owner = .record r.header.seq →
    s.stream = before ++ { body := .record r, issued := true } :: behind →
    (∀ i ∈ before ++ behind, i.isRecord r.header.seq = false) →
    let seq := r.header.seq
    exec (.recordWriteResponse .okay) s = .next
      { s with
        port := { s.port with outstanding := rest }
        stream := before ++ behind
        staging := { runSlots := s.staging.runSlots.filter fun slot => slot != .record seq
                     filler := if s.staging.filler = some seq then none else s.staging.filler }
        log := { s.log with durableHead := (r.position + r.length) % s.log.ringSize }
        window := s.window.map fun e =>
          let waits : WaitList :=
            { hit := if e.waits.hit = some seq then none else e.waits.hit
              own := if e.waits.own = some seq then none else e.waits.own }
          { e with
            waits := waits
            phase := if e.phase = .awaitRecord ∧ waits.hit = none ∧ waits.own = none then .ready else e.phase }
        capture := { s.capture with walkOwed := true } }

/-- R16, R19, R20, R21, R33, R40, R45, R48, R123, R206, R207: a header write left waiting is placed once the stream has room,
behind every item, with the next generation and its contents taken now. An OKAY response to a header write takes it from
the stream and finishes what asked for it: the operation's event and ARMED, then the latches act and a walk is made. A
rollback's end drops the cursor and releases its holds too. A RECYCLE release's header write finishes nothing, and makes a
walk where a run is stalled in ARMED under RECYCLE. Model's choice: HEADER_WRITE_PLACEMENT changes nothing when no header
write waits or the stream has no room (assumption 2), the walk is made within the step (assumption 11), and the generation after
4 294 967 295 is 0 (assumption 30). -/
def Obligations.HeaderWritesArePlacedAndFinish : Prop :=
  (∀ s : State,
    (s.log.waitingHeader = none → exec .headerWritePlacement s = .next s) ∧
    (8 ≤ headerWrites s.stream → exec .headerWritePlacement s = .next s) ∧
    ∀ purpose, s.log.waitingHeader = some purpose → headerWrites s.stream < 8 →
      let header := s.log.headerCopy (s.log.generation + 1)
      exec .headerWritePlacement s = .next
        { s with
          log := { s.log with waitingHeader := none, generation := s.log.generation + 1 }
          stream := s.stream ++ [{ body := .header purpose header, issued := false }] }) ∧
  ∀ (s : State) (o : Outstanding) (rest : List Outstanding) (purpose : HeaderPurpose) (copy : HeaderCopy)
    (behind : List StreamItem), s.port.outstanding = o :: rest → o.orphan = false → o.owner = .header copy.generation →
    s.stream = { body := .header purpose copy, issued := true } :: behind →
    (∀ i ∈ behind, i.isHeaderWrite copy.generation = false) →
    let taken : State := { s with port := { s.port with outstanding := rest }, stream := behind }
    let ended (kind : EventKind) (detail : Detail) : State :=
      { taken with
        log := { s.log with engine := .armed }
        events := s.events.post
          { kind := kind, epoch := s.log.currentEpoch, address := none, requester := none, detail := detail } }
    let returns (u : State) := ∃ t : State, exec (.headerWriteResponse .okay) s = .next t ∧ ReturnsToArmed u t
    let stalls := s.log.engine = .armed ∧ s.log.policy.logFull = .recycle ∧
      ∃ e ∈ s.window, ∃ r ∈ e.runs, r.condition = .stalled
    (purpose = .checkpoint → returns (ended .checkpointDone (.number s.log.currentEpoch))) ∧
    (purpose = .discard → returns (ended .discardDone (.number s.log.currentEpoch))) ∧
    (purpose = .release → ∀ oldest, s.log.marks.head? = some oldest →
      returns (ended .releaseDone (.number oldest.epoch))) ∧
    (purpose = .rollback → ∀ cursor, s.rollback = some cursor → returns
      { ended .rollbackDone (.number (BitVec.ofNat 32 cursor.applied)) with
        rollback := none
        window := s.window.map fun e => if e.heldFor .rollback then { e with phase := .ordered } else e }) ∧
    (purpose = .recycle → stalls →
      ∃ t : State, exec (.headerWriteResponse .okay) s = .next t ∧ Walks taken t) ∧
    (purpose = .recycle → ¬stalls → exec (.headerWriteResponse .okay) s = .next taken)

/-- R33, R35, R43, R92, R98, R105, R141, R165, R207: the persistence of the attach header write ends the attach: ATTACH_DONE
with the records found and the marks, the scan cursor gone, ARMED, the epoch timer from 0, every logged write in ORDERED or
READY refused with CANCELLED, one REFUSED event each in window order; then the latches act and a walk is made. What the
latches do is shown for a release's end: a latched fault is acted on as a rollback of depth 0, and a set pending-checkpoint
latch is then dropped; without a latched fault the latched checkpoint is accepted; with neither, and no run waiting, the walk
changes nothing. Model's choice: the walk is made within the step (assumption 11). -/
def Obligations.ReturnToArmedCancelsAndActsOnLatches : Prop :=
  (∀ (s : State) (o : Outstanding) (rest : List Outstanding) (copy : HeaderCopy) (behind : List StreamItem)
    (c : ScanCursor), s.port.outstanding = o :: rest → o.orphan = false → o.owner = .header copy.generation →
    s.stream = { body := .header .attach copy, issued := true } :: behind →
    (∀ i ∈ behind, i.isHeaderWrite copy.generation = false) → s.scan = some c →
    let cancelled (e : Entry) := e.isLoggedWrite ∧ (e.phase = .ordered ∨ e.phase = .ready)
    let epoch := newestEpoch s.log.marks
    ∃ u t : State, exec (.headerWriteResponse .okay) s = .next t ∧ ReturnsToArmed u t ∧
      u = { s with
        scan := none, stream := behind, port := { outstanding := rest, bypass := u.port.bypass }
        host := { s.host with offered := u.host.offered }
        log := { s.log with
          engine := .armed, reserved := u.log.reserved
          timer := { ticks := 0, counter := 0, fired := false, due := none } }
        staging := { s.staging with runSlots := u.staging.runSlots }
        capture := { s.capture with walkOwed := u.capture.walkOwed }
        events := refusalEvents epoch .cancelled (s.window.filter fun e => decide (cancelled e))
          (s.events.post
            { kind := .attachDone, epoch := epoch, address := none, requester := none,
              detail := .attach c.found s.log.marks.length })
        window := s.window.map fun e =>
          if cancelled e then
            { e with phase := .done .refused [], runs := abandonRuns e.runs, waits := { hit := none, own := none },
                     payload := [] }
          else e }) ∧
  ∀ (s : State) (o : Outstanding) (rest : List Outstanding) (copy : HeaderCopy) (behind : List StreamItem) (newest : Mark),
    s.port.outstanding = o :: rest → o.orphan = false → o.owner = .header copy.generation →
    s.stream = { body := .header .release copy, issued := true } :: behind →
    (∀ i ∈ behind, i.isHeaderWrite copy.generation = false) → s.log.marks.getLast? = some newest →
    ∃ t : State, exec (.headerWriteResponse .okay) s = .next t ∧
      t = { s with
        stream := t.stream, port := { outstanding := rest, bypass := t.port.bypass }
        host := { s.host with offered := t.host.offered }, log := t.log, rollback := t.rollback, events := t.events
        window := t.window, staging := { s.staging with runSlots := t.staging.runSlots }
        capture := { s.capture with walkOwed := t.capture.walkOwed } } ∧
      t.events.summary.getLsbD (kindNumber .releaseDone - 1) ∧
      (s.log.faultLatch = true →
        t.stream = behind ∧ t.capture.walkOwed = false ∧
        t.log = { s.log with
          engine := .quiescing, faultLatch := false, checkpointLatch := false, reserved := t.log.reserved } ∧
        t.rollback = some { target := newest.epoch, applied := 0, replay := none } ∧
        (s.log.checkpointLatch = true → t.events.summary.getLsbD (kindNumber .checkpointIgnored - 1))) ∧
      (s.log.faultLatch = false → s.log.checkpointLatch = true →
        t.stream = behind ∧ t.rollback = s.rollback ∧
        t.log = { s.log with
          engine := .checkpointing, checkpointLatch := false, reservedEpoch := some s.log.nextEpoch
          nextEpoch := s.log.nextEpoch + 1, reserved := t.log.reserved, logFull := t.log.logFull }) ∧
      (s.log.faultLatch = false → s.log.checkpointLatch = false →
        t.log.engine = .armed ∧ t.rollback = s.rollback ∧
        ((∀ e ∈ s.window, ∀ r ∈ e.runs, r.waiting = false) → t =
          { s with
            stream := behind, port := { s.port with outstanding := rest }, log := { s.log with engine := .armed }
            events := t.events, capture := { s.capture with walkOwed := false } }))

/-- R12, R22, R23, R24, R25, R93, R98, R156: an ERROR on a write of the stream enters LOG_FAULT. The failed item and every
item behind it are discarded, their staging slots freed, their outstanding requests left to be ignored; write position and
last length return to the oldest discarded record; the operation in flight ends; the Capture Set is cleared; logged writes
not past READY are refused, and rollback holds released. The events in order: LOG_FAULT; REFUSED for each refused entry in
window order, with its address and requester; what the low-space comparison posts; CKPT_IGNORED and FAULT_DROPPED of the
latches that were set. Model's choice: where the low-space comparison stands among them (assumption 15). -/
def Obligations.StreamWriteErrorEntersLogFault : Prop :=
  ∀ (s : State) (o : Outstanding) (rest : List Outstanding) (item : StreamItem) (before behind : List StreamItem)
    (command : Instr), s.port.outstanding = o :: rest → o.orphan = false →
    s.stream = before ++ item :: behind → item.issued = true →
    ((∃ r, item.body = .record r ∧ o.owner = .record r.header.seq ∧ command = .recordWriteResponse .error ∧
        ∀ i ∈ before, i.isRecord r.header.seq = false) ∨
      (∃ purpose copy, item.body = .header purpose copy ∧ o.owner = .header copy.generation ∧
        command = .headerWriteResponse .error ∧ ∀ i ∈ before, i.isHeaderWrite copy.generation = false)) →
    let discarded := item :: behind
    let refused (e : Entry) := e.isLoggedWrite = true ∧ e.phase ≠ .issued ∧ e.isDone = false ∧
      (e.phase ≠ .ready ∨ s.log.engine = .scanning ∨ s.log.engine = .detaching)
    let epoch := newestEpoch s.log.marks
    let latch (kind : EventKind) (detail : Detail) : Event :=
      { kind := kind, epoch := epoch, address := none, requester := none, detail := detail }
    let compared := State.compareLowSpace
      { s with
        log := { s.log with
          engine := .logFault, reserved := 0, reservedEpoch := none, waitingHeader := none
          writePos := match streamRecords discarded with
            | [] => s.log.writePos
            | r :: _ => r.position
          lastLength := match streamRecords discarded with
            | [] => s.log.lastLength
            | r :: _ => r.header.back }
        events := refusalEvents epoch .logFault (s.window.filter fun e => decide (refused e))
          (s.events.post
            { kind := .logFault, epoch := epoch, address := some (s.log.itemAddress item), requester := none,
              detail := match item.body with
                | .record r => .number r.header.seq
                | .header _ _ => .header }) }
    let ignored :=
      if s.log.checkpointLatch then compared.events.post (latch .checkpointIgnored (.source .latch))
      else compared.events
    ∃ t : State, exec command s = .next t ∧
      t = { s with
        stream := before, rollback := none, scan := none, maintOffer := none
        capture := { s.capture with set := [], walkOwed := t.capture.walkOwed }
        port := { outstanding := rest.map fun o => o.discardIf discarded, bypass := t.port.bypass }
        host := { s.host with offered := t.host.offered }
        log := { compared.log with checkpointLatch := false, faultLatch := false }
        staging := t.staging, window := t.window
        events :=
          if s.log.faultLatch then ignored.post (latch .faultDropped (.prevented .logFault)) else ignored } ∧
      (∀ slot, slot ∈ t.staging.runSlots → slot ∈ s.staging.runSlots) ∧
      (∀ r ∈ streamRecords discarded, .record r.header.seq ∉ t.staging.runSlots ∧
        t.staging.filler ≠ some r.header.seq) ∧
      t.window.length = s.window.length ∧
      ∀ (k : Nat) (e e' : Entry), s.window[k]? = some e → t.window[k]? = some e' →
        (refused e → e' = { e with
          phase := .done .refused [], runs := abandonRuns e.runs, waits := { hit := none, own := none },
          payload := [] }) ∧
        (¬refused e → e.heldFor .rollback = true → e' = { e with phase := .ordered }) ∧
        (¬refused e → e.heldFor .rollback = false → e' = e)

/-- R71, R149, R156, R159: the responses that are ignored. One to a discarded item's write or to an orphan frees its slot
and changes nothing else; one to an abandoned run's read also frees the run's staging slot and takes the run from its
entry; a stray one changes nothing. Model's choice: a response is given with its row, and one that does not fit the
oldest request is not its response (assumption 19); the walk for the freed slot is made by CAPTURE_WALK (assumption 11). -/
def Obligations.IgnoredResponsesOnlyFreeTheirSlots : Prop :=
  ∀ (s : State) (response : MemResponse),
    exec (.strayResponse response) s = .next s ∧
    ∀ (o : Outstanding) (rest : List Outstanding), s.port.outstanding = o :: rest →
      let freed := { s with port := { s.port with outstanding := rest } }
      let fits := ∀ data, response = .okay data → data.length = if o.request.kind = .read then o.request.length else 0
      (o.orphan = true → fits → exec (.orphanResponse response) s = .next freed) ∧
      (o.orphan = false → o.owner = .discarded →
        ∀ result, exec (.discardedItemResponse result) s = .next freed) ∧
      ∀ (id : Nat) (e : Entry) (run : Run), o.orphan = false → o.owner = .capture id → fits →
        s.findRun id = some (e, run) → run.condition = .abandoned →
        exec (.abandonedReadReturn response) s = .next
          { freed with
            staging := { s.staging with runSlots := s.staging.runSlots.filter fun slot => slot != .run id }
            window := s.window.map fun e => { e with runs := e.runs.filter fun r => r.id != id }
            capture := { s.capture with walkOwed := true } }

/-! ## Capture -/

/-- R55, R56: putting a Capture Set entry in place. The granule is then found with the new number; every other granule is
found as before, but for that of the oldest entry where a full Set without the granule loses it; the Set stays within 64. -/
def Obligations.CaptureSetTakesTheNewEntry : Prop :=
  ∀ (set : List CaptureEntry) (granule seq : BitVec 32),
    set.length ≤ 64 → (set.map CaptureEntry.granule).Nodup →
    let after := insertCapture set granule seq
    let found (set : List CaptureEntry) (g : BitVec 32) := set.find? fun c => c.granule == g
    after.length ≤ 64 ∧ (after.map CaptureEntry.granule).Nodup ∧
    after.getLast? = some { granule := granule, seq := seq } ∧ found after granule = some { granule := granule, seq := seq } ∧
    ((set.length < 64 ∨ (found set granule).isSome) → ∀ g, g ≠ granule → found after g = found set g) ∧
    (∀ oldest others, set = oldest :: others → set.length = 64 → found set granule = none →
      found after oldest.granule = none ∧ ∀ g, g ≠ granule → g ≠ oldest.granule → found after g = found set g)

/-- R2, R3, R5, R6, R11, R16, R56, R60, R61, R65, R66, R67: the return of a capture read creates the run's record in one
step, behind a filler where the record would cross the end of the ring; an ERROR creates a poisoned record of zeros.
Model's choice: a walk that falls due is made by CAPTURE_WALK (assumption 11). -/
def Obligations.CaptureReadCreatesTheRecord : Prop :=
  ∀ (s : State) (o : Outstanding) (rest : List Outstanding) (e : Entry) (run : Run) (poison : Bool) (bytes : List Byte),
    s.port.outstanding = o :: rest → o.orphan = false → o.owner = .capture run.id → o.request.kind = .read →
    o.request.length = 32 * run.count → bytes.length = 32 * run.count → s.findRun run.id = some (e, run) →
    run.condition = .reading true → s.log.reservedEpoch ≠ some e.epoch →
    let L := 16 + 32 * run.count
    let S := s.log.ringSize
    let wraps := S < s.log.writePos + L
    let gap := S - s.log.writePos
    let data := if poison then List.replicate (32 * run.count) 0 else bytes
    let fillerHeader : RecordHeader :=
      { seq := s.log.nextSeq, epoch := e.epoch, first := 0, back := s.log.lastLength, count := 0, poison := false,
        requester := e.requester, kind := .filler, check := 0 }
    let seq := if wraps then s.log.nextSeq + 1 else s.log.nextSeq
    let header : RecordHeader :=
      { seq := seq, epoch := e.epoch, first := run.first, back := if wraps then gap / 16 else s.log.lastLength,
        count := run.count, poison := poison, requester := e.requester, kind := .data, check := 0 }
    let filler : Record :=
      { header := { fillerHeader with check := crc16 (headerMessage fillerHeader) }, data := [],
        position := s.log.writePos, length := gap }
    let record : Record :=
      { header := { header with check := crc16 (headerMessage header ++ data) }, data := data,
        position := if wraps then 0 else s.log.writePos, length := L }
    let items := (if wraps then [filler] else []) ++ [record]
    let u := State.compareLowSpace
      { s with
        log := { s.log with
          nextSeq := seq + 1, writePos := (record.position + L) % S, lastLength := L / 16,
          reserved := s.log.reserved - (L + (L - 16)) } }
    s.log.writePos < S →
    exec (.captureReadResponse (if poison then .error else .okay bytes)) s = .next
      { s with
        port := { s.port with outstanding := rest }
        stream := s.stream ++ items.map fun r => { body := .record r, issued := false }
        staging := { runSlots := s.staging.runSlots.map fun slot => if slot = .run run.id then .record seq else slot
                     filler := if wraps then some s.log.nextSeq else s.staging.filler }
        log := u.log
        events :=
          if poison then u.events.post
            { kind := .poisonCaptured, epoch := s.log.currentEpoch, address := some run.first,
              requester := some e.requester, detail := .number seq }
          else u.events
        capture := { s.capture with
          set := ((List.range run.count).map fun k => run.first + BitVec.ofNat 32 (32 * k)).foldl
            (fun set g => insertCapture set g seq) s.capture.set
          walkOwed := s.capture.walkOwed || decide ((if wraps then gap else 0) + L < L + (L - 16)) }
        window := s.window.map fun x =>
          if x.requester = e.requester ∧ x.tag = e.tag then
            let runs := x.runs.map fun r => if r.id = run.id then { r with condition := .recorded } else r
            { x with
              runs := runs
              waits := { x.waits with own := keepGreater x.waits.own seq }
              phase := if ∃ r ∈ runs, r.unrecorded then x.phase else .awaitRecord }
          else x }

/-- R12, R36: a capture read that returns before the boundary of its entry's epoch is deferred, its data or its ERROR kept in
its slot; no record is created. And the low-space comparison: with a percentage it sets and clears the indication by used
space against the threshold, posting LOG_LOW only when the indication becomes set. -/
def Obligations.EarlyReadDefersAndLowSpaceCompares : Prop :=
  (∀ (s : State) (o : Outstanding) (rest : List Outstanding) (e : Entry) (run : Run) (poison : Bool) (bytes : List Byte),
    s.port.outstanding = o :: rest → o.orphan = false → o.owner = .capture run.id → o.request.kind = .read →
    bytes.length = o.request.length → s.findRun run.id = some (e, run) → run.condition = .reading true →
    s.log.reservedEpoch = some e.epoch →
    exec (.captureReadResponse (if poison then .error else .okay bytes)) s = .next
      { s with
        port := { s.port with outstanding := rest }
        window := s.window.map fun x =>
          if x.requester = e.requester ∧ x.tag = e.tag then
            { x with runs := x.runs.map fun r =>
                if r.id = run.id then { r with condition := .deferred poison (if poison then [] else bytes) } else r }
          else x }) ∧
  ∀ s : State, 0 < s.log.policy.threshold →
    let t := s.compareLowSpace
    let low := s.log.ringSize * s.log.policy.threshold / 100 < s.log.usedSpace
    t = { s with log := { s.log with lowSpace := t.log.lowSpace }, events := t.events } ∧
    (t.log.lowSpace = true ↔ low) ∧
    (¬(low ∧ s.log.lowSpace = false) → t.events = s.events) ∧
    (low → s.log.lowSpace = false → t.events = s.events.post
      { kind := .logLow, epoch := s.log.currentEpoch, address := none, requester := none,
        detail := .number (BitVec.ofNat 32 s.log.usedSpace) })

/-- R53, R54, R58, R59, R60, R61, R86, R87, R98: the oldest entry in ORDERED that no older unfinished entry with a common
granule blocks leaves ORDERED, by its kind, its tag, the engine state and the freeze flag. A logged write in a logging
state groups its missed granules into maximal runs and waits for the newest unpersisted record a hit names. Model's
choice: a write with epoch tag 0 goes to READY in every engine state (assumption 17), the walk for new runs is made by
CAPTURE_WALK (assumption 11), and of several entries free to leave the oldest does (assumption 29). -/
def Obligations.CaptureDecisionSendsTheOldestFreeEntry : Prop :=
  ∀ (s : State) (older behind : List Entry) (e : Entry),
    WindowLaw s → s.window = older ++ e :: behind → e.phase = .ordered →
    let blocks (a b : Entry) := a.isDone = false ∧ (∃ g, g ∈ a.granules ∧ g ∈ b.granules) ∧
      (a.kind = .write ∨ b.kind = .write)
    (∀ a ∈ older, ¬blocks a e) →
    (∀ before x after, older = before ++ x :: after → x.phase = .ordered → ∃ a ∈ before, blocks a x) →
    let timer : HoldTimer := { elapsed := 0, limit := s.log.policy.holdLimit.toNat }
    let becomes (left : Entry) := ∃ t : State, exec .captureDecision s = .next t ∧
      t = { s with window := older ++ left :: behind, port := t.port, host := t.host } ∧
      t.port.outstanding = s.port.outstanding ∧ t.host.channel = s.host.channel
    let rollsBack := s.log.engine = .quiescing ∨ s.log.engine = .rollingBack ∨ s.log.engine = .halted
    let logs := s.log.engine = .armed ∨ s.log.engine = .checkpointing ∨ s.log.engine = .updating
    (¬e.isLogged → becomes { e with phase := .ready }) ∧
    (e.isLoggedRead → ¬rollsBack → becomes { e with phase := .ready }) ∧
    (e.isLoggedRead → rollsBack → becomes { e with phase := .held .rollback timer }) ∧
    (e.isLoggedWrite → e.epoch = 0 → becomes { e with phase := .ready }) ∧
    (e.isLoggedWrite → s.log.engine ∈ [EngineState.detached, .formatting, .scanning, .detaching] →
      becomes { e with phase := .ready }) ∧
    (e.isLoggedWrite → e.epoch ≠ 0 → rollsBack → becomes { e with phase := .held .rollback timer }) ∧
    (e.isLoggedWrite → e.epoch ≠ 0 → logs → s.log.freeze = true → becomes { e with phase := .held .freeze timer }) ∧
    (e.isLoggedWrite → e.epoch ≠ 0 → s.log.engine = .logFault → ∃ t : State, exec .captureDecision s = .next t ∧
      t = { s with
        window := t.window, events := t.events, log := { s.log with reserved := t.log.reserved }
        staging := { s.staging with runSlots := t.staging.runSlots }
        capture := { s.capture with walkOwed := t.capture.walkOwed }
        port := { s.port with bypass := t.port.bypass }, host := { s.host with offered := t.host.offered } } ∧
      t.window = older ++ { e with phase := .done .refused [], runs := abandonRuns e.runs,
                                   waits := { hit := none, own := none }, payload := [] } :: behind ∧
      t.events = s.events.post
        { kind := .refused, epoch := s.log.currentEpoch, address := some e.address, requester := some e.requester,
          detail := .refusal .logFault }) ∧
    (e.isLoggedWrite → e.epoch ≠ 0 → logs → s.log.freeze = false →
      let missesAll := s.log.reservedEpoch = some e.epoch
      let missed := e.granules.filter fun g => decide missesAll || (s.lookupCapture g).isNone
      let waitsFor (q : BitVec 32) := ¬missesAll ∧ isPersisted s.stream q = false ∧
        ∃ g ∈ e.granules, s.lookupCapture g = some q
      ∃ (t : State) (runs : List Run) (hit : Option (BitVec 32)), exec .captureDecision s = .next t ∧
        t = { s with window := t.window, port := t.port, host := t.host, capture := t.capture } ∧
        t.capture.set = s.capture.set ∧ (runs ≠ [] → t.capture.walkOwed = true) ∧
        t.window = older ++
          { e with
            runs := e.runs ++ runs, waits := { hit := hit, own := none }
            phase := if runs ≠ [] then .capturing else if hit ≠ none then .awaitRecord else .ready } :: behind ∧
        runs.flatMap Run.granules = missed ∧ (∀ r ∈ runs, 1 ≤ r.count ∧ r.condition = .pending) ∧
        (∀ k r r', runs[k]? = some r → runs[k + 1]? = some r' → r'.first ≠ r.first + BitVec.ofNat 32 (32 * r.count)) ∧
        (hit = none ↔ ∀ q, ¬waitsFor q) ∧ (∀ q, hit = some q → waitsFor q) ∧
        ∀ q, waitsFor q → (∀ q', waitsFor q' → q' ≠ q → below q' q = true ∧ below q q' = false) → hit = some q)

/-- R10, R11, R12, R13, R14, R15, R62, R63, R67, R74, R206: the walk over the window with one waiting run. With a free slot
and space it is granted; without space it is refused as under WAIT, with LOG_FULL once, where the policy is WAIT, the state is
not ARMED, one mark is left or the stream holds 8 header writes; else, under RECYCLE, the oldest epoch is dropped with
EPOCH_DROPPED and without LOG_FULL, "space freed" makes another walk due, and the run asks again at once. A walk outside the
logging states, or with no slot free, grants nothing. No walk takes more than seven slots; under WAIT none takes used space
and reservations above S − 16. Model's choice: a walk is made when one is due and not otherwise (assumptions 2 and 11); a
release posts no LOG_FULL, and a later refusal does (assumption 27); threshold 0 keeps the low-space indication clear
(assumption 8). -/
def Obligations.WalkGrantsByTheSpaceTest : Prop :=
  (∀ s : State, s.capture.walkOwed = false → exec .captureWalk s = .next s) ∧
  (∀ s : State, s.capture.walkOwed = true →
    (s.log.engine ∉ [EngineState.armed, .checkpointing, .updating] ∨ 7 ≤ s.staging.runSlots.length) →
    exec .captureWalk s = .next { s with capture := { s.capture with walkOwed := false } }) ∧
  (∀ s : State, s.staging.runSlots.length ≤ 7 →
    ∃ t : State, exec .captureWalk s = .next t ∧ t.staging.runSlots.length ≤ 7 ∧ t.staging.filler = s.staging.filler) ∧
  (∀ s : State, s.log.policy.logFull = .wait → s.log.usedSpace + s.log.reserved + 16 ≤ s.log.ringSize →
    ∃ t : State, exec .captureWalk s = .next t ∧ t.log.usedSpace + t.log.reserved + 16 ≤ t.log.ringSize ∧
      t.log.marks = s.log.marks ∧ t.stream = s.stream ∧ t.port = s.port ∧ t.capture.set = s.capture.set) ∧
  ∀ (s : State) (before after : List Entry) (e : Entry) (earlier later : List Run) (run : Run),
    WindowLaw s → s.window = before ++ e :: after → e.runs = earlier ++ run :: later →
    (∀ x ∈ before ++ after, ∀ r ∈ x.runs, r.waiting = false) → (∀ r ∈ earlier ++ later, r.waiting = false ∧ r.id ≠ run.id) →
    run.waiting = true → s.capture.walkOwed = true →
    s.log.engine ∈ [EngineState.armed, .checkpointing, .updating] → s.staging.runSlots.length < 7 →
    let charge := 16 + 32 * run.count + 32 * run.count
    let fits (l : LogController) := l.usedSpace + l.reserved + charge + 16 ≤ l.ringSize
    let granted : List Entry := before ++
      { e with
        runs := earlier ++ { run with condition := .reading false } :: later
        phase := if e.heldFor .space then .capturing else e.phase } :: after
    (fits s.log → exec .captureWalk s = .next
      { s with
        capture := { s.capture with walkOwed := false }
        log := { s.log with reserved := s.log.reserved + charge, logFull := false }
        staging := { s.staging with runSlots := s.staging.runSlots ++ [.run run.id] }
        window := granted }) ∧
    (¬fits s.log →
      (s.log.policy.logFull = .wait ∨ s.log.engine ≠ .armed ∨ s.log.marks.length ≤ 1 ∨ 8 ≤ headerWrites s.stream) →
      exec .captureWalk s = .next
        { s with
          capture := { s.capture with walkOwed := false }
          log := { s.log with logFull := true }
          events :=
            if s.log.logFull then s.events
            else s.events.post
              { kind := .logFull, epoch := s.log.currentEpoch, address := some run.first, requester := some e.requester,
                detail := .number (BitVec.ofNat 32 charge) }
          window := before ++
            (if run.condition = .stalled then e
              else { e with
                runs := earlier ++ { run with condition := .stalled } :: later
                phase := .held .space { elapsed := 0, limit := s.log.policy.holdLimit.toNat } }) :: after }) ∧
    (¬fits s.log → s.log.policy.logFull = .recycle → s.log.engine = .armed → headerWrites s.stream < 8 →
      ∀ oldest next more, s.log.marks = oldest :: next :: more →
      let dropped := State.compareLowSpace
        { s with log := { s.log with marks := next :: more, tail := next.offset } }
      let released : State :=
        { dropped with
          log := { dropped.log with generation := s.log.generation + 1 }
          stream := s.stream ++
            [{ body := .header .recycle (dropped.log.headerCopy (s.log.generation + 1)), issued := false }]
          events := dropped.events.post
            { kind := .epochDropped, epoch := s.log.currentEpoch, address := none, requester := none,
              detail := .number oldest.epoch } }
      (∃ t : State, exec .captureWalk released = .next t ∧
        exec .captureWalk s = .next { t with capture := { t.capture with walkOwed := true } }) ∧
      (fits dropped.log → exec .captureWalk s = .next
        { released with
          capture := { s.capture with walkOwed := true }
          log := { released.log with reserved := s.log.reserved + charge, logFull := false }
          staging := { s.staging with runSlots := s.staging.runSlots ++ [.run run.id] }
          window := granted }))

/-! ## Rollback -/

/-- R91, R98, R103, R104, R105: ROLLBACK d in ARMED, d below the mark count, is answered STARTED: the d-th mark back from the
newest is the target and the state becomes QUIESCING. Logged writes in ORDERED, HELD, CAPTURING or READY are refused with
CANCELLED, with one REFUSED event each in window order, with its address and requester; logged reads in ORDERED or READY are
HELD for ROLLBACK. Nothing else but the reservations, the staging slots of the cancelled captures and the ports' bookkeeping
changes. -/
def Obligations.RollbackAcceptanceTargetsTheMark : Prop :=
  ∀ (s : State) (depth : BitVec 8) (older newer : List Mark) (target : Mark), s.rstLow = false → s.log.engine = .armed →
    s.log.marks = older ++ target :: newer → newer.length = depth.toNat →
    let timer : HoldTimer := { elapsed := 0, limit := s.log.policy.holdLimit.toNat }
    let cancelled (e : Entry) := e.isLoggedWrite = true ∧
      (e.phase = .ordered ∨ e.isHeld = true ∨ e.phase = .capturing ∨ e.phase = .ready)
    ∃ t : State, exec (.rollback depth) s = .next t ∧
      t = { s with
        log := t.log, rollback := t.rollback, window := t.window, staging := t.staging, capture := t.capture,
        port := t.port, host := t.host, events := t.events, link := answered .started [] } ∧
      t.rollback = some { target := target.epoch, applied := 0, replay := none } ∧
      t.log = { s.log with engine := .quiescing, reserved := t.log.reserved } ∧ t.log.reserved ≤ s.log.reserved ∧
      t.capture.set = s.capture.set ∧ t.port.outstanding = s.port.outstanding ∧ t.host.channel = s.host.channel ∧
      t.staging.filler = s.staging.filler ∧ (∀ q, .record q ∈ t.staging.runSlots ↔ .record q ∈ s.staging.runSlots) ∧
      t.events = refusalEvents s.log.currentEpoch .cancelled (s.window.filter fun e => decide (cancelled e)) s.events ∧
      t.window = s.window.map fun e =>
        if cancelled e then
          { e with phase := .done .refused [], runs := abandonRuns e.runs, waits := { hit := none, own := none },
                   payload := [] }
        else if e.isLoggedRead ∧ (e.phase = .ordered ∨ e.phase = .ready) then { e with phase := .held .rollback timer }
        else e

/-- R107, R109, R110, R112, R122: QUIESCE_COMPLETE. With the Staging Buffer and the stream empty and no logged entry between
AWAIT_RECORD and ISSUED, ROLLING_BACK is entered: the newest record's read is offered; or, with none in the newest epoch, the
replay crosses to the next older mark, with the mark just left's first sequence as its bound; or, with none in the target's
epoch, the completion step is made. A back length of 0 where a read is needed halts with RECORD_BAD FORM. Until then nothing
changes. Model's choice: a row whose happening is not due changes nothing (assumption 2), and the address of that RECORD_BAD
(assumption 31). -/
def Obligations.QuiesceCompleteStartsTheReplay : Prop :=
  ∀ (s : State) (cursor : RollbackCursor) (older : List Mark) (newest : Mark),
    s.rollback = some cursor → s.log.marks = older ++ [newest] →
    let waits := ∃ e ∈ s.window, e.isLogged ∧ (e.phase = .awaitRecord ∨ e.phase = .ready ∨ e.phase = .issued)
    let due := s.log.engine = .quiescing ∧ s.staging.runSlots = [] ∧ s.staging.filler = none ∧ s.stream = [] ∧ ¬waits
    let replay : Replay :=
      { position := s.log.durableHead, back := s.log.lastLength, span := newest.epoch, bound := s.log.nextSeq,
        lastApplied := none, progress := .between, haltRequested := false }
    let length := 16 * s.log.lastLength
    let position := ringSub s.log.ringSize s.log.durableHead length
    let reads (replay : Replay) := exec .quiesceComplete s = .next
      { s with
        log := { s.log with engine := .rollingBack }
        rollback := some { cursor with replay := some { replay with progress := .reading position length } }
        maintOffer := some
          { step := .recordRead
            request := { kind := .read, address := s.log.ringAddress position, length := length, enables := none,
                         data := [] } } }
    (¬due → exec .quiesceComplete s = .next s) ∧
    (due → s.log.durableHead ≠ newest.offset → s.log.lastLength ≠ 0 → reads replay) ∧
    (due → s.log.durableHead ≠ newest.offset → s.log.lastLength = 0 → exec .quiesceComplete s = .next
      { s with
        log := { s.log with engine := .halted }
        rollback := some { cursor with replay := some replay }
        events := s.events.post
          { kind := .recordBad, epoch := newest.epoch, address := some (s.log.ringAddress position), requester := none,
            detail := .bad .form } }) ∧
    (due → s.log.durableHead = newest.offset → newest.epoch ≠ cursor.target → ∀ before previous,
      older = before ++ [previous] → s.log.durableHead ≠ previous.offset → s.log.lastLength ≠ 0 →
      reads { replay with span := previous.epoch, bound := newest.firstSeq }) ∧
    (due → s.log.durableHead = newest.offset → newest.epoch = cursor.target →
      let log := { s.log with
        engine := .rollingBack
        marks := older ++ [{ newest with firstSeq := s.log.nextSeq, duration := 0, recovered := false }]
        timer := { ticks := 0, counter := 0, fired := false, due := none } }
      exec .quiesceComplete s = .next
        { s with
          log := { log with generation := s.log.generation + 1 }
          rollback := some { cursor with replay := some { replay with progress := .completing } }
          capture := { s.capture with set := [] }
          window := s.window.map fun e => if below cursor.target e.epoch then { e with epoch := cursor.target } else e
          stream := [{ body := .header .rollback (log.headerCopy (s.log.generation + 1)), issued := false }] })

/-- R111, R112, R113, R114, R115: the return of a rollback's record read. An ERROR, or the first failed check in the order
CODE, FORM, SEQUENCE, EPOCH, halts the replay with RECORD_BAD and its reason. A usable data record that is not poisoned has
its restore write offered with the record's data at the first granule's address. A usable poisoned record, which posts
UNRESTORABLE, and a usable FILLER, which posts nothing, are moved back over at once with no write, exactly as a record whose
restore write answers OKAY. Model's choice: which bytes the check code covers (assumption 13). -/
def Obligations.RecordReadIsCheckedInOrder : Prop :=
  ∀ (s : State) (o : Outstanding) (rest : List Outstanding) (cursor : RollbackCursor) (replay : Replay)
    (position length : Nat) (bytes : List Byte) (span : Mark) (area : LogArea), s.port.outstanding = o :: rest →
    o.orphan = false → o.owner = .maint .recordRead → o.request.kind = .read → o.request.length = length →
    bytes.length = length → s.rollback = some cursor → cursor.replay = some replay →
    replay.progress = .reading position length → s.log.marks.find? (fun m => m.epoch == replay.span) = some span →
    s.log.area = some area →
    let h := parseHeader bytes
    let taken := { s with port := { s.port with outstanding := rest } }
    let bad (reason : BadReason) : State :=
      { taken with
        log := { s.log with engine := .halted }
        rollback := some { cursor with replay := some { replay with progress := .between, haltRequested := false } }
        events := s.events.post
          { kind := .recordBad, epoch := newestEpoch s.log.marks, address := some (s.log.ringAddress position),
            requester := none, detail := .bad reason } }
    let restoring := some { cursor with replay := some { replay with progress := .restoring h position } }
    let movesBack (events : EventQueue) := exec (.rollbackRecordReadResponse (.okay bytes)) s =
      exec (.restoreWriteResponse .okay)
        { s with
          port := { s.port with
            outstanding := { o with owner := .maint .restoreWrite, request := { o.request with kind := .write } } :: rest }
          rollback := restoring, events := events }
    let code := h.kind = .other ∨
      crc16 (bytes.take 14 ++ if h.kind = .data then (bytes.drop 16).take (32 * h.count) else []) = h.check
    let form := byteAt bytes 13 &&& 0xCC = 0 ∧ length ≤ ringSub s.log.ringSize replay.position span.offset ∧
      ((h.kind = .data ∧ 1 ≤ h.count ∧ h.count ≤ 4 ∧ length = 16 + 32 * h.count ∧ h.first.toNat % 32 = 0 ∧
          h.first.toNat % 128 + 32 * h.count ≤ 128 ∧
          (h.first.toNat + 32 * h.count ≤ area.base.toNat ∨ area.base.toNat + area.size ≤ h.first.toNat)) ∨
        (h.kind = .filler ∧ h.count = 0 ∧ h.poison = false ∧ replay.position = 0))
    let sequence :=
      (∀ last, replay.lastApplied = some last → h.seq + 1 = last) ∧
      (replay.lastApplied = none → below h.seq replay.bound = true ∧ below h.seq span.firstSeq = false) ∧
      (position = span.offset → h.seq = span.firstSeq)
    exec (.rollbackRecordReadResponse .error) s = .next (bad .read) ∧
    (¬code → exec (.rollbackRecordReadResponse (.okay bytes)) s = .next (bad .code)) ∧
    (code → ¬form → exec (.rollbackRecordReadResponse (.okay bytes)) s = .next (bad .form)) ∧
    (code → form → ¬sequence → exec (.rollbackRecordReadResponse (.okay bytes)) s = .next (bad .sequence)) ∧
    (code → form → sequence → h.epoch ≠ span.epoch →
      exec (.rollbackRecordReadResponse (.okay bytes)) s = .next (bad .epoch)) ∧
    (code → form → sequence → h.epoch = span.epoch → h.kind = .data → h.poison = false →
      exec (.rollbackRecordReadResponse (.okay bytes)) s = .next
        { taken with
          rollback := restoring
          maintOffer := some
            { step := .restoreWrite
              request := { kind := .write, address := h.first, length := 32 * h.count, enables := none,
                           data := bytes.drop 16 } } }) ∧
    (code → form → sequence → h.epoch = span.epoch → h.kind = .data → h.poison = true →
      movesBack (s.events.post
        { kind := .unrestorable, epoch := s.log.currentEpoch, address := some h.first, requester := some h.requester,
          detail := .number h.seq })) ∧
    (code → form → sequence → h.epoch = span.epoch → h.kind = .filler → movesBack s.events)

/-- R12, R109, R110, R112, R113, R116, R117, R118, R122: the return of a restore write moves back over the record, OKAY or
ERROR alike; an ERROR posts RESTORE_ERROR first; low space is compared. Then the replay halts, if that was asked for and the
target's offset is not reached; or reads the record before it in the same epoch; or crosses to the next older mark, with the
first sequence of the mark just left as its bound and no last applied; or, at the target mark's offset, makes the completion
step. A back length of 0 where a read is needed halts with RECORD_BAD FORM. Model's choice: "space freed" makes a walk due
(assumption 11), threshold 0 keeps the low-space indication clear (assumption 8), and the address of that RECORD_BAD
(assumption 31). -/
def Obligations.RestoreWriteMovesBack : Prop :=
  ∀ (s : State) (o : Outstanding) (rest : List Outstanding) (cursor : RollbackCursor) (replay : Replay)
    (h : RecordHeader) (position : Nat) (result : WriteResult) (older newer : List Mark) (span : Mark),
    s.port.outstanding = o :: rest → o.orphan = false → o.owner = .maint .restoreWrite → o.request.kind = .write →
    s.rollback = some cursor → cursor.replay = some replay → replay.progress = .restoring h position →
    s.log.marks = older ++ span :: newer → span.epoch = replay.span →
    (∀ m ∈ older ++ newer, m.epoch ≠ replay.span) → (∀ m ∈ newer, m.epoch ≠ cursor.target) →
    let moved := { replay with
      position := position, back := h.back, lastApplied := some h.seq, progress := ReplayProgress.between }
    let onward := { cursor with applied := cursor.applied + 1, replay := some moved }
    let compared := State.compareLowSpace
      { s with
        log := { s.log with durableHead := position, writePos := position, lastLength := h.back }
        events := match result with
          | .okay => s.events
          | .error => s.events.post
            { kind := .restoreError, epoch := s.log.currentEpoch, address := some h.first,
              requester := some h.requester, detail := .number h.seq } }
    let before : State :=
      { compared with
        port := { s.port with outstanding := rest }, rollback := some onward
        capture := { s.capture with walkOwed := true } }
    let length := 16 * h.back
    let next := ringSub s.log.ringSize position length
    let halted (kind : EventKind) (address : Option (BitVec 32)) (detail : Detail) : State :=
      { before with
        log := { compared.log with engine := .halted }
        rollback := some { onward with replay := some { moved with haltRequested := false } }
        events := compared.events.post
          { kind := kind, epoch := newestEpoch s.log.marks, address := address, requester := none, detail := detail } }
    let halts := replay.haltRequested = true ∧
      (s.log.marks.find? fun m => m.epoch == cursor.target).map Mark.offset ≠ some position
    let answer := exec (.restoreWriteResponse result) s
    let reads (replay : Replay) := answer = .next
      { before with
        rollback := some { onward with replay := some { replay with progress := .reading next length } }
        maintOffer := some
          { step := .recordRead
            request := { kind := .read, address := s.log.ringAddress next, length := length, enables := none,
                         data := [] } } }
    let completes (older : List Mark) (target : Mark) (replay : Replay) := headerWrites s.stream < 8 →
      let log := { compared.log with
        marks := older ++ [{ target with firstSeq := s.log.nextSeq, duration := 0, recovered := false }]
        timer := { ticks := 0, counter := 0, fired := false, due := none } }
      answer = .next
        { before with
          log := { log with generation := s.log.generation + 1 }
          rollback := some { onward with replay := some { replay with progress := .completing, haltRequested := false } }
          stream := s.stream ++
            [{ body := .header .rollback (log.headerCopy (s.log.generation + 1)), issued := false }]
          window := s.window.map fun e => if below cursor.target e.epoch then { e with epoch := cursor.target } else e
          capture := { s.capture with set := [], walkOwed := true } }
    (halts → answer = .next (halted .rollbackHalted none (.number (BitVec.ofNat 32 (cursor.applied + 1))))) ∧
    (¬halts → position ≠ span.offset → h.back ≠ 0 → reads moved) ∧
    (¬halts → position ≠ span.offset → h.back = 0 →
      answer = .next (halted .recordBad (some (s.log.ringAddress next)) (.bad .form))) ∧
    (position = span.offset → span.epoch = cursor.target → completes older span moved) ∧
    (¬halts → position = span.offset → span.epoch ≠ cursor.target → ∀ further previous,
      older = further ++ [previous] →
      let crossed := { moved with span := previous.epoch, bound := span.firstSeq, lastApplied := none }
      (position ≠ previous.offset → h.back ≠ 0 → reads crossed) ∧
      (position = previous.offset → previous.epoch = cursor.target → completes further previous crossed))

/-- R108, R109, R110, R112, R118, R120, R194: HALT in ROLLING_BACK asks for a halt after the record in progress, and has no
effect once the completion step is made; RESUME in HALTED goes on with the record that comes next, halting again with
RECORD_BAD FORM at a back length of 0, and crossing to the next older mark where the span mark's offset is reached. In every
other state each is refused with STATE. Model's choice: HALT counts a record whose read is offered and not yet granted as
in progress (assumption 20); the address of that RECORD_BAD (assumption 31). -/
def Obligations.HaltAndResumeSteerTheReplay : Prop :=
  ∀ s : State, s.rstLow = false →
    (s.log.engine ≠ .rollingBack → exec .halt s = .next { s with link := answered (.refused .state) [] }) ∧
    (s.log.engine ≠ .halted → exec .resume s = .next { s with link := answered (.refused .state) [] }) ∧
    ∀ (cursor : RollbackCursor) (replay : Replay), s.rollback = some cursor → cursor.replay = some replay →
      (s.log.engine = .rollingBack →
        (replay.progress = .completing → exec .halt s = .next { s with link := answered .done [] }) ∧
        ((∃ p n, replay.progress = .reading p n) ∨ (∃ h p, replay.progress = .restoring h p) →
          exec .halt s = .next
            { s with
              rollback := some { cursor with replay := some { replay with haltRequested := true } }
              link := answered .done [] })) ∧
      ∀ (older newer : List Mark) (span : Mark), s.log.engine = .halted → s.log.marks = older ++ span :: newer →
        span.epoch = replay.span → (∀ m ∈ newer, m.epoch ≠ replay.span) →
        let length := 16 * replay.back
        let position := ringSub s.log.ringSize replay.position length
        (replay.position ≠ span.offset → replay.back ≠ 0 → exec .resume s = .next
          { s with
            log := { s.log with engine := .rollingBack }
            rollback := some { cursor with replay := some { replay with progress := .reading position length } }
            maintOffer := some
              { step := .recordRead
                request := { kind := .read, address := s.log.ringAddress position, length := length, enables := none,
                             data := [] } }
            link := answered .done [] }) ∧
        (replay.position ≠ span.offset → replay.back = 0 → exec .resume s = .next
          { s with
            rollback := some { cursor with replay := some { replay with progress := .between, haltRequested := false } }
            events := s.events.post
              { kind := .recordBad, epoch := newestEpoch s.log.marks, address := some (s.log.ringAddress position),
                requester := none, detail := .bad .form }
            link := answered .done [] }) ∧
        (replay.position = span.offset → span.epoch ≠ cursor.target → ∀ further previous,
          older = further ++ [previous] → (∀ m ∈ span :: newer, m.epoch ≠ previous.epoch) →
          (∃ m ∈ older, m.epoch = cursor.target) →
          let crossed := { replay with span := previous.epoch, bound := span.firstSeq, lastApplied := none }
          exec .resume s = exec .resume { s with rollback := some { cursor with replay := some crossed } })

/-! ## Memory Port and host port -/

/-- R17, R64, R88, R148, R151, R153, R154: a grant goes to LOG, MAINT, CAPTURE and HOST in this order, but to HOST once it
has been passed over four times. The request joins the outstanding list as newest; the host bypass count increases while HOST
is passed over. A header write is offered only when it is the oldest item of the stream. Model's choice: MEMORY_GRANT
changes nothing while four slots are taken or nothing is offered (assumption 2). -/
def Obligations.MemoryGrantFollowsThePriority : Prop :=
  ∀ s : State, s.rstLow = false → WindowLaw s →
    let offersHost := ∃ e ∈ s.window, e.phase = .ready
    let bypassed : Nat := if s.window.any Entry.isReady then min 4 (s.port.bypass + 1) else 0
    let overdue := offersHost ∧ 4 ≤ s.port.bypass
    let logIdle := ∀ before i behind, s.stream = before ++ i :: behind → i.issued = false →
      (∀ j ∈ before, j.issued = true) → i.isHeader = true ∧ before ≠ []
    let captureIdle := ∀ id p, .run id ∈ s.staging.runSlots → s.findRun id = some p → p.2.condition ≠ .reading false
    let issue (claimant : Claimant) (owner : Owner) (request : MemRequest) (bypass : Nat) : MemoryPort :=
      { outstanding := s.port.outstanding ++ [{ claimant := claimant, owner := owner, request := request, orphan := false }]
        bypass := bypass }
    (4 ≤ s.port.outstanding.length → exec .memoryGrant s = .next s) ∧
    (logIdle → s.maintOffer = none → captureIdle → ¬offersHost → exec .memoryGrant s = .next s) ∧
    (s.port.outstanding.length < 4 →
      (∀ before i behind, s.stream = before ++ i :: behind → i.issued = false → (∀ j ∈ before, j.issued = true) →
        (i.isHeader = false ∨ before = []) → ¬overdue →
        let owner : Owner := match i.body with
          | .record r => .record r.header.seq
          | .header _ copy => .header copy.generation
        let data := match i.body with
          | .record r => r.bytes
          | .header _ copy => copyBytes copy
        let address := match i.body with
          | .record r => s.log.base + BitVec.ofNat 32 (512 + r.position)
          | .header _ copy => if copy.generation.toNat % 2 = 1 then s.log.base else s.log.base + 256
        exec .memoryGrant s = .next
          { s with
            stream := before ++ { i with issued := true } :: behind
            port := issue .log owner
              { kind := .write, address := address, length := data.length, enables := none, data := data } bypassed }) ∧
      (∀ offer, logIdle → s.maintOffer = some offer → ¬overdue → exec .memoryGrant s = .next
        { s with maintOffer := none, port := issue .maint (.maint offer.step) offer.request bypassed }) ∧
      (∀ before id after e run, logIdle → s.maintOffer = none → s.staging.runSlots = before ++ .run id :: after →
        s.findRun id = some (e, run) → run.condition = .reading false →
        (∀ id' p, .run id' ∈ before → s.findRun id' = some p → p.2.condition ≠ .reading false) → ¬overdue →
        exec .memoryGrant s = .next
          { s with
            window := s.window.map fun x =>
              { x with runs := x.runs.map fun r => if r.id = run.id then { r with condition := .reading true } else r }
            port := issue .capture (.capture run.id)
              { kind := .read, address := run.first, length := 32 * run.count, enables := none, data := [] } bypassed }) ∧
      (∀ before e after, s.window = before ++ e :: after → e.phase = .ready → (∀ x ∈ before, x.phase ≠ .ready) →
        (overdue ∨ logIdle ∧ s.maintOffer = none ∧ captureIdle) → exec .memoryGrant s = .next
          { s with
            window := before ++ { e with phase := .issued, payload := [] } :: after
            port := issue .host (.host e.requester e.tag) e.memRequest 0 })) ∧
    ∀ e : Entry, 1 ≤ e.length → (e.kind = .write → e.payload.length = e.length) →
      let start := e.address.toNat / 16 * 16
      let r := e.memRequest
      r.kind = e.kind ∧ r.address = BitVec.ofNat 32 start ∧ r.length % 16 = 0 ∧ e.address.toNat + e.length ≤ start + r.length ∧
      start + r.length < e.address.toNat + e.length + 16 ∧
      (e.kind = .read → r.enables = none ∧ r.data = []) ∧
      (e.kind = .write → ∃ enables, r.enables = some enables ∧ enables.length = r.length ∧ r.data.length = r.length ∧
        (∀ k mask byte, e.payload[k]? = some (mask, byte) →
          enables[e.address.toNat - start + k]? = some mask ∧ r.data[e.address.toNat - start + k]? = some byte) ∧
        ∀ k, (k < e.address.toNat - start ∨ e.address.toNat - start + e.length ≤ k) → k < r.length →
          enables[k]? = some false)

/-- R30, R31, R75, R76, R79, R80, R85: HOST_REQUEST_ACCEPT. The presented request stays presented while the window is
full or its tag in use; else it becomes the youngest window entry with its snapshot, its epoch tag and its first phase:
DONE with ERROR if malformed, DONE with REFUSED without permission or as a logged write in LOG_FAULT, HELD during a
rollback if logged, else ORDERED. Model's choice: the request channel is a list, and one request is accepted by a command
(assumption 6). -/
def Obligations.HostRequestBecomesAWindowEntry : Prop :=
  ∀ (s : State) (arriving : Option HostRequest) (r : HostRequest) (behind : List HostRequest),
    s.rstLow = false → s.host.channel ++ arriving.toList = r :: behind →
    let command : Instr := .hostRequestAccept arriving
    let inUse := ∃ e ∈ s.window, e.requester = r.requester ∧ e.tag = r.tag
    let length := match r.op with
      | .read n => n
      | .write payload => payload.length
    let payload := match r.op with
      | .read _ => []
      | .write payload => payload
    let kind : AccessKind := match r.op with
      | .read _ => .read
      | .write _ => .write
    let wellFormed := 1 ≤ length ∧ length ≤ 128 ∧ r.address.toNat % 128 + length ≤ 128
    let contains (g : Region) := g.valid = true ∧ g.base.toNat ≤ r.address.toNat ∧ r.address.toNat < g.base.toNat + g.size
    let tag : BitVec 32 :=
      if s.log.engine = .detached ∨ s.log.engine = .formatting ∨ s.log.engine = .scanning then 0
      else if s.log.engine = .checkpointing then s.log.reservedEpoch.getD s.log.currentEpoch
      else s.log.currentEpoch
    let granules := (List.range ((r.address.toNat + length - 1) / 32 - r.address.toNat / 32 + 1)).map fun k =>
      BitVec.ofNat 32 (32 * (r.address.toNat / 32 + k))
    let entry (snapshot : Option Snapshot) (phase : Phase) : Entry :=
      { requester := r.requester, tag := r.tag, kind := kind, address := r.address, length := length, payload := payload,
        granules := granules, snapshot := snapshot, epoch := tag, phase := phase, waits := { hit := none, own := none },
        runs := [] }
    let accepted (e : Entry) (events : EventQueue) := ∃ t : State, exec command s = .next t ∧
      t = { s with window := s.window ++ [e], host := t.host, port := t.port, events := events } ∧
      t.host.channel = behind ∧ t.host.lastServed = s.host.lastServed ∧ t.port.outstanding = s.port.outstanding
    let event (kind : EventKind) (detail : Detail) : Event :=
      { kind := kind, epoch := s.log.currentEpoch, address := some r.address, requester := some r.requester,
        detail := detail }
    ((8 ≤ s.window.length ∨ inUse) →
      exec command s = .next { s with host := { s.host with channel := r :: behind } }) ∧
    (s.window.length < 8 → ¬inUse →
      (¬wellFormed → accepted
        { entry none (.done .error []) with granules := [], payload := [] }
        (s.events.post (event .dataError (.dataError .malformed)))) ∧
      (wellFormed → (∀ i : Fin 16, ¬contains s.regions[i]) → accepted (entry none .ordered) s.events) ∧
      ∀ i : Fin 16, wellFormed → contains s.regions[i] → (∀ j : Fin 16, j < i → ¬contains s.regions[j]) →
        let snapshot := some { index := i, mode := s.regions[i].mode, mask := s.regions[i].mask }
        let denied := kind = .write ∧ s.regions[i].mask.getLsbD r.requester.val = false
        let faulted := kind = .write ∧ s.regions[i].mode = .logged ∧ s.log.engine = .logFault
        let rollsBack := s.log.engine = .quiescing ∨ s.log.engine = .rollingBack ∨ s.log.engine = .halted
        (denied → accepted { entry snapshot (.done .refused []) with payload := [] }
          (s.events.post (event .refused (.refusal .permission)))) ∧
        (¬denied → faulted → accepted { entry snapshot (.done .refused []) with payload := [] }
          (s.events.post (event .refused (.refusal .logFault)))) ∧
        (¬denied → s.regions[i].mode = .logged → rollsBack → accepted
          (entry snapshot (.held .rollback { elapsed := 0, limit := s.log.policy.holdLimit.toNat })) s.events) ∧
        (¬denied → ¬faulted → ¬(s.regions[i].mode = .logged ∧ rollsBack) →
          accepted (entry snapshot .ordered) s.events))

/-- R90, R96, R99, R100, R101, R155: the response to a window entry's access makes the entry DONE, with the transaction's
bytes of the span for an OKAY read, and with ERROR and DATA_ERROR else. A delivered response takes its entry from the
window, and the requester next after it in the rotation whose oldest entry is DONE is offered. An expired hold is refused
with HOLD_TIMEOUT, its capture abandoned. Model's choice: the delivery arbiter chooses after the whole step (assumption
7), and an expired hold is refused by its own row (assumption 16). -/
def Obligations.AccessesEndAndResponsesAreDelivered : Prop :=
  ∀ (s : State) (before after : List Entry) (e : Entry), WindowLaw s → s.window = before ++ e :: after →
    let done (result : HostResult) (data : List Byte) : Entry :=
      { e with phase := .done result data, waits := { hit := none, own := none }, payload := [] }
    let dueTo (window : List Entry) (q : Requester) := ∃ older x newer, window = older ++ x :: newer ∧
      x.requester = q ∧ (∀ y ∈ older, y.requester ≠ q) ∧ x.isDone = true
    (∀ (o : Outstanding) (rest : List Outstanding) (response : MemResponse), s.port.outstanding = o :: rest →
      o.orphan = false → o.owner = .host e.requester e.tag → o.request.kind = e.kind → e.phase = .issued →
      let ends (left : Entry) (events : EventQueue) := ∃ t : State, exec (.hostAccessResponse response) s = .next t ∧
        t = { s with window := before ++ left :: after, port := t.port, host := t.host, events := events } ∧
        t.port.outstanding = rest ∧ t.host.channel = s.host.channel ∧ t.host.lastServed = s.host.lastServed ∧
        (s.host.offered ≠ none → t.host.offered = s.host.offered)
      (∀ bytes, e.kind = .read → response = .okay bytes → bytes.length = o.request.length →
        ends (done .okay ((bytes.drop (e.address.toNat % 16)).take e.length)) s.events) ∧
      (e.kind = .write → response = .okay [] → ends (done .okay []) s.events) ∧
      (response = .error → ends (done .error []) (s.events.post
        { kind := .dataError, epoch := s.log.currentEpoch, address := some e.address, requester := some e.requester,
          detail := .dataError (if e.kind = .write then .write else .read) }))) ∧
    (s.host.offered = some e.requester → (∀ x ∈ before, x.requester ≠ e.requester) →
      ∃ t : State, exec .responseDelivery s = .next t ∧
        t = { s with window := before ++ after, port := t.port, host := t.host } ∧
        t.port.outstanding = s.port.outstanding ∧ t.host.channel = s.host.channel ∧
        t.host.lastServed = e.requester ∧
        (t.host.offered = none ↔ ∀ q, ¬dueTo t.window q) ∧
        ∀ q, t.host.offered = some q → dueTo t.window q ∧
          ∀ q' : Requester, dueTo t.window q' → (q - e.requester - 1).val ≤ (q' - e.requester - 1).val) ∧
    (∀ cause timer, e.phase = .held cause timer → timer.limit ≠ 0 → timer.limit ≤ timer.elapsed →
      (∀ x ∈ before, ∀ c u, x.phase = .held c u → u.limit = 0 ∨ u.elapsed < u.limit) →
      ∃ t : State, exec .holdTimeout s = .next t ∧
        t.window = before ++ { done .refused [] with runs := abandonRuns e.runs } :: after ∧
        t.events = s.events.post
          { kind := .refused, epoch := s.log.currentEpoch, address := some e.address, requester := some e.requester,
            detail := .refusal .holdTimeout } ∧
        (∃ reserved, t.log = { s.log with reserved := reserved } ∧ reserved ≤ s.log.reserved) ∧ t.stream = s.stream ∧
        t.capture.set = s.capture.set ∧ t.port.outstanding = s.port.outstanding ∧ t.regions = s.regions)
end

