-- ==== Sys2Proof/Laws/Formats.lean ====
section
/-! SUPPORT. What the layouts of the Formats chapter give back when they are read: numbers in memory order, a header copy with
its check code, and a record with its check code. -/

namespace Sys2Proof.Machine

/-! ## Numbers in memory -/

theorem join32_le32 (n : Num) :
    join32 (n.extractLsb' 24 8) (n.extractLsb' 16 8) (n.extractLsb' 8 8) (n.extractLsb' 0 8) = n := by
  apply BitVec.eq_of_getLsbD_eq
  intro i hi
  simp only [join32, BitVec.getLsbD_append, BitVec.getLsbD_extractLsb']
  by_cases h1 : i < 8
  · simp [h1]
  by_cases h2 : i < 16
  · simp [h1, show i - 8 < 8 by omega, show 8 + (i - 8) = i by omega]
  by_cases h3 : i < 24
  · simp [h1, show ¬i - 8 < 8 by omega, show i - 8 - 8 < 8 by omega, show 16 + (i - 8 - 8) = i by omega]
  · simp [h1, show ¬i - 8 < 8 by omega, show ¬i - 8 - 8 < 8 by omega, show i - 8 - 8 - 8 < 8 by omega,
      show 24 + (i - 8 - 8 - 8) = i by omega]

theorem join16_le16 (n : BitVec 16) : join16 (n.extractLsb' 8 8) (n.extractLsb' 0 8) = n := by
  apply BitVec.eq_of_getLsbD_eq
  intro i hi
  simp only [join16, BitVec.getLsbD_append, BitVec.getLsbD_extractLsb']
  by_cases h1 : i < 8
  · simp [h1]
  · simp [h1, show i - 8 < 8 by omega, show 8 + (i - 8) = i by omega]

theorem le32_length (n : Num) : (le32 n).length = 4 := rfl

theorem le16_length (n : BitVec 16) : (le16 n).length = 2 := rfl

/-- A number written behind a message is read back at the message's length. -/
theorem readLe32_behind (message : List Byte) (n : Num) (rest : List Byte) :
    readLe32 (message ++ (le32 n ++ rest)) message.length = n := by
  simp [readLe32, byteAt, le32, join32_le32]

/-- A code written behind a message is read back at the message's length. -/
theorem readLe16_behind (message : List Byte) (n : BitVec 16) (rest : List Byte) :
    readLe16 (message ++ (le16 n ++ rest)) message.length = n := by
  simp [readLe16, byteAt, le16, join16_le16]

/-! ## Header copies (R20, R201) -/

theorem markBytes_length (m : Mark) : (markBytes m).length = 24 := by simp [markBytes, le32]

theorem flatMap_markBytes_length (marks : List Mark) : (marks.flatMap markBytes).length = 24 * marks.length := by
  induction marks with
  | nil => rfl
  | cons m marks ih => simp [markBytes_length]; omega

theorem copyMessage_length (c : HeaderCopy) (h : c.marks.length ≤ 8) : (copyMessage c).length = 252 := by
  simp only [copyMessage, markSlots, List.length_append, le32_length, flatMap_markBytes_length, List.length_replicate,
    List.length_cons, List.length_nil]
  omega

theorem copyBytes_length (c : HeaderCopy) (h : c.marks.length ≤ 8) : (copyBytes c).length = 256 := by
  simp [copyBytes, copyMessage_length c h, le32_length]

theorem take_copyBytes (c : HeaderCopy) (h : c.marks.length ≤ 8) : (copyBytes c).take 252 = copyMessage c := by
  simp [copyBytes, copyMessage_length c h]

theorem parseCopy_check (c : HeaderCopy) (h : c.marks.length ≤ 8) : (parseCopy (copyBytes c)).check = c.check := by
  have read := readLe32_behind (copyMessage c) c.check []
  rw [copyMessage_length c h, List.append_nil] at read
  exact read

/-- The check code of a header copy the part writes. -/
theorem headerCopy_check (l : LogController) (generation : Num) :
    (l.headerCopy generation).check = crc32 (copyMessage (l.headerCopy generation)) := rfl

/-- A copy the part writes passes its check code, so it is valid if its fields are. -/
theorem validCopy_headerCopy (S : Nat) (name : CopyName) (l : LogController) (generation : Num)
    (h : l.marks.length ≤ 8)
    (fields : copyFieldsValid S name (markCountByte (copyBytes (l.headerCopy generation)))
      (parseCopy (copyBytes (l.headerCopy generation))) = true) :
    validCopy S name (copyBytes (l.headerCopy generation)) = some (parseCopy (copyBytes (l.headerCopy generation))) := by
  have h' : (l.headerCopy generation).marks.length ≤ 8 := h
  refine if_pos ⟨?_, fields⟩
  rw [take_copyBytes _ h', parseCopy_check _ h', headerCopy_check]

/-! ## Records (R4, R200) -/

theorem headerMessage_length (h : RecordHeader) : (headerMessage h).length = 14 := rfl

theorem headerBytes_length (h : RecordHeader) : (headerBytes h).length = 16 := rfl

theorem headerBytes_withCheck (h : RecordHeader) (code : BitVec 16) :
    headerBytes { h with check := code } = headerMessage h ++ le16 code := by
  simp only [headerBytes, headerMessage, shapeByte, sourceByte]

/-- The bytes of a sealed header: its message, and behind it its check code. -/
theorem headerBytes_sealHeader (h : RecordHeader) (data : List Byte) :
    headerBytes (sealHeader h data) = headerMessage h ++ le16 (recordCheck h data) := by
  rw [sealHeader, headerBytes_withCheck]

/-- A sealed record, read back, has the check code of its other header fields and its data. -/
theorem sealed_code (h : RecordHeader) (data : List Byte) :
    crc16 ((headerBytes (sealHeader h data) ++ data).take 14 ++ (headerBytes (sealHeader h data) ++ data).drop 16) =
      readLe16 (headerBytes (sealHeader h data) ++ data) 14 := by
  have read := readLe16_behind (headerMessage h) (recordCheck h data) data
  rw [headerMessage_length] at read
  rw [List.drop_left' (headerBytes_length _), headerBytes_sealHeader, List.append_assoc,
    List.take_left' (headerMessage_length h), read, recordCheck]

end Sys2Proof.Machine
end

