-- ==== Sys2Proof/Laws/State.lean ====
section
/-! SUPPORT. One lemma per field per block update: what each replacement or change of a block reads as. -/

namespace Sys2Proof.Machine

/-! ### withPending -/

@[simp] theorem State.withPending_pending (s : State) (x : List Instr) : (s.withPending x).pending = x := rfl
@[simp] theorem State.withPending_rstLow (s : State) (x : List Instr) : (s.withPending x).rstLow = s.rstLow := rfl
@[simp] theorem State.withPending_host (s : State) (x : List Instr) : (s.withPending x).host = s.host := rfl
@[simp] theorem State.withPending_window (s : State) (x : List Instr) : (s.withPending x).window = s.window := rfl
@[simp] theorem State.withPending_regions (s : State) (x : List Instr) : (s.withPending x).regions = s.regions := rfl
@[simp] theorem State.withPending_capture (s : State) (x : List Instr) : (s.withPending x).capture = s.capture := rfl
@[simp] theorem State.withPending_staging (s : State) (x : List Instr) : (s.withPending x).staging = s.staging := rfl
@[simp] theorem State.withPending_stream (s : State) (x : List Instr) : (s.withPending x).stream = s.stream := rfl
@[simp] theorem State.withPending_log (s : State) (x : List Instr) : (s.withPending x).log = s.log := rfl
@[simp] theorem State.withPending_rollback (s : State) (x : List Instr) : (s.withPending x).rollback = s.rollback := rfl
@[simp] theorem State.withPending_scan (s : State) (x : List Instr) : (s.withPending x).scan = s.scan := rfl
@[simp] theorem State.withPending_maintOffer (s : State) (x : List Instr) : (s.withPending x).maintOffer = s.maintOffer := rfl
@[simp] theorem State.withPending_port (s : State) (x : List Instr) : (s.withPending x).port = s.port := rfl
@[simp] theorem State.withPending_events (s : State) (x : List Instr) : (s.withPending x).events = s.events := rfl
@[simp] theorem State.withPending_link (s : State) (x : List Instr) : (s.withPending x).link = s.link := rfl

/-! ### withRst -/

@[simp] theorem State.withRst_pending (s : State) (x : Bool) : (s.withRst x).pending = s.pending := rfl
@[simp] theorem State.withRst_rstLow (s : State) (x : Bool) : (s.withRst x).rstLow = x := rfl
@[simp] theorem State.withRst_host (s : State) (x : Bool) : (s.withRst x).host = s.host := rfl
@[simp] theorem State.withRst_window (s : State) (x : Bool) : (s.withRst x).window = s.window := rfl
@[simp] theorem State.withRst_regions (s : State) (x : Bool) : (s.withRst x).regions = s.regions := rfl
@[simp] theorem State.withRst_capture (s : State) (x : Bool) : (s.withRst x).capture = s.capture := rfl
@[simp] theorem State.withRst_staging (s : State) (x : Bool) : (s.withRst x).staging = s.staging := rfl
@[simp] theorem State.withRst_stream (s : State) (x : Bool) : (s.withRst x).stream = s.stream := rfl
@[simp] theorem State.withRst_log (s : State) (x : Bool) : (s.withRst x).log = s.log := rfl
@[simp] theorem State.withRst_rollback (s : State) (x : Bool) : (s.withRst x).rollback = s.rollback := rfl
@[simp] theorem State.withRst_scan (s : State) (x : Bool) : (s.withRst x).scan = s.scan := rfl
@[simp] theorem State.withRst_maintOffer (s : State) (x : Bool) : (s.withRst x).maintOffer = s.maintOffer := rfl
@[simp] theorem State.withRst_port (s : State) (x : Bool) : (s.withRst x).port = s.port := rfl
@[simp] theorem State.withRst_events (s : State) (x : Bool) : (s.withRst x).events = s.events := rfl
@[simp] theorem State.withRst_link (s : State) (x : Bool) : (s.withRst x).link = s.link := rfl

/-! ### withHost -/

@[simp] theorem State.withHost_pending (s : State) (x : HostPort) : (s.withHost x).pending = s.pending := rfl
@[simp] theorem State.withHost_rstLow (s : State) (x : HostPort) : (s.withHost x).rstLow = s.rstLow := rfl
@[simp] theorem State.withHost_host (s : State) (x : HostPort) : (s.withHost x).host = x := rfl
@[simp] theorem State.withHost_window (s : State) (x : HostPort) : (s.withHost x).window = s.window := rfl
@[simp] theorem State.withHost_regions (s : State) (x : HostPort) : (s.withHost x).regions = s.regions := rfl
@[simp] theorem State.withHost_capture (s : State) (x : HostPort) : (s.withHost x).capture = s.capture := rfl
@[simp] theorem State.withHost_staging (s : State) (x : HostPort) : (s.withHost x).staging = s.staging := rfl
@[simp] theorem State.withHost_stream (s : State) (x : HostPort) : (s.withHost x).stream = s.stream := rfl
@[simp] theorem State.withHost_log (s : State) (x : HostPort) : (s.withHost x).log = s.log := rfl
@[simp] theorem State.withHost_rollback (s : State) (x : HostPort) : (s.withHost x).rollback = s.rollback := rfl
@[simp] theorem State.withHost_scan (s : State) (x : HostPort) : (s.withHost x).scan = s.scan := rfl
@[simp] theorem State.withHost_maintOffer (s : State) (x : HostPort) : (s.withHost x).maintOffer = s.maintOffer := rfl
@[simp] theorem State.withHost_port (s : State) (x : HostPort) : (s.withHost x).port = s.port := rfl
@[simp] theorem State.withHost_events (s : State) (x : HostPort) : (s.withHost x).events = s.events := rfl
@[simp] theorem State.withHost_link (s : State) (x : HostPort) : (s.withHost x).link = s.link := rfl

/-! ### withWindow -/

@[simp] theorem State.withWindow_pending (s : State) (x : List Entry) : (s.withWindow x).pending = s.pending := rfl
@[simp] theorem State.withWindow_rstLow (s : State) (x : List Entry) : (s.withWindow x).rstLow = s.rstLow := rfl
@[simp] theorem State.withWindow_host (s : State) (x : List Entry) : (s.withWindow x).host = s.host := rfl
@[simp] theorem State.withWindow_window (s : State) (x : List Entry) : (s.withWindow x).window = x := rfl
@[simp] theorem State.withWindow_regions (s : State) (x : List Entry) : (s.withWindow x).regions = s.regions := rfl
@[simp] theorem State.withWindow_capture (s : State) (x : List Entry) : (s.withWindow x).capture = s.capture := rfl
@[simp] theorem State.withWindow_staging (s : State) (x : List Entry) : (s.withWindow x).staging = s.staging := rfl
@[simp] theorem State.withWindow_stream (s : State) (x : List Entry) : (s.withWindow x).stream = s.stream := rfl
@[simp] theorem State.withWindow_log (s : State) (x : List Entry) : (s.withWindow x).log = s.log := rfl
@[simp] theorem State.withWindow_rollback (s : State) (x : List Entry) : (s.withWindow x).rollback = s.rollback := rfl
@[simp] theorem State.withWindow_scan (s : State) (x : List Entry) : (s.withWindow x).scan = s.scan := rfl
@[simp] theorem State.withWindow_maintOffer (s : State) (x : List Entry) : (s.withWindow x).maintOffer = s.maintOffer := rfl
@[simp] theorem State.withWindow_port (s : State) (x : List Entry) : (s.withWindow x).port = s.port := rfl
@[simp] theorem State.withWindow_events (s : State) (x : List Entry) : (s.withWindow x).events = s.events := rfl
@[simp] theorem State.withWindow_link (s : State) (x : List Entry) : (s.withWindow x).link = s.link := rfl

/-! ### withRegions -/

@[simp] theorem State.withRegions_pending (s : State) (x : Vector Region 16) : (s.withRegions x).pending = s.pending := rfl
@[simp] theorem State.withRegions_rstLow (s : State) (x : Vector Region 16) : (s.withRegions x).rstLow = s.rstLow := rfl
@[simp] theorem State.withRegions_host (s : State) (x : Vector Region 16) : (s.withRegions x).host = s.host := rfl
@[simp] theorem State.withRegions_window (s : State) (x : Vector Region 16) : (s.withRegions x).window = s.window := rfl
@[simp] theorem State.withRegions_regions (s : State) (x : Vector Region 16) : (s.withRegions x).regions = x := rfl
@[simp] theorem State.withRegions_capture (s : State) (x : Vector Region 16) : (s.withRegions x).capture = s.capture := rfl
@[simp] theorem State.withRegions_staging (s : State) (x : Vector Region 16) : (s.withRegions x).staging = s.staging := rfl
@[simp] theorem State.withRegions_stream (s : State) (x : Vector Region 16) : (s.withRegions x).stream = s.stream := rfl
@[simp] theorem State.withRegions_log (s : State) (x : Vector Region 16) : (s.withRegions x).log = s.log := rfl
@[simp] theorem State.withRegions_rollback (s : State) (x : Vector Region 16) : (s.withRegions x).rollback = s.rollback := rfl
@[simp] theorem State.withRegions_scan (s : State) (x : Vector Region 16) : (s.withRegions x).scan = s.scan := rfl
@[simp] theorem State.withRegions_maintOffer (s : State) (x : Vector Region 16) : (s.withRegions x).maintOffer = s.maintOffer := rfl
@[simp] theorem State.withRegions_port (s : State) (x : Vector Region 16) : (s.withRegions x).port = s.port := rfl
@[simp] theorem State.withRegions_events (s : State) (x : Vector Region 16) : (s.withRegions x).events = s.events := rfl
@[simp] theorem State.withRegions_link (s : State) (x : Vector Region 16) : (s.withRegions x).link = s.link := rfl

/-! ### withCapture -/

@[simp] theorem State.withCapture_pending (s : State) (x : CaptureUnit) : (s.withCapture x).pending = s.pending := rfl
@[simp] theorem State.withCapture_rstLow (s : State) (x : CaptureUnit) : (s.withCapture x).rstLow = s.rstLow := rfl
@[simp] theorem State.withCapture_host (s : State) (x : CaptureUnit) : (s.withCapture x).host = s.host := rfl
@[simp] theorem State.withCapture_window (s : State) (x : CaptureUnit) : (s.withCapture x).window = s.window := rfl
@[simp] theorem State.withCapture_regions (s : State) (x : CaptureUnit) : (s.withCapture x).regions = s.regions := rfl
@[simp] theorem State.withCapture_capture (s : State) (x : CaptureUnit) : (s.withCapture x).capture = x := rfl
@[simp] theorem State.withCapture_staging (s : State) (x : CaptureUnit) : (s.withCapture x).staging = s.staging := rfl
@[simp] theorem State.withCapture_stream (s : State) (x : CaptureUnit) : (s.withCapture x).stream = s.stream := rfl
@[simp] theorem State.withCapture_log (s : State) (x : CaptureUnit) : (s.withCapture x).log = s.log := rfl
@[simp] theorem State.withCapture_rollback (s : State) (x : CaptureUnit) : (s.withCapture x).rollback = s.rollback := rfl
@[simp] theorem State.withCapture_scan (s : State) (x : CaptureUnit) : (s.withCapture x).scan = s.scan := rfl
@[simp] theorem State.withCapture_maintOffer (s : State) (x : CaptureUnit) : (s.withCapture x).maintOffer = s.maintOffer := rfl
@[simp] theorem State.withCapture_port (s : State) (x : CaptureUnit) : (s.withCapture x).port = s.port := rfl
@[simp] theorem State.withCapture_events (s : State) (x : CaptureUnit) : (s.withCapture x).events = s.events := rfl
@[simp] theorem State.withCapture_link (s : State) (x : CaptureUnit) : (s.withCapture x).link = s.link := rfl

/-! ### withStaging -/

@[simp] theorem State.withStaging_pending (s : State) (x : Staging) : (s.withStaging x).pending = s.pending := rfl
@[simp] theorem State.withStaging_rstLow (s : State) (x : Staging) : (s.withStaging x).rstLow = s.rstLow := rfl
@[simp] theorem State.withStaging_host (s : State) (x : Staging) : (s.withStaging x).host = s.host := rfl
@[simp] theorem State.withStaging_window (s : State) (x : Staging) : (s.withStaging x).window = s.window := rfl
@[simp] theorem State.withStaging_regions (s : State) (x : Staging) : (s.withStaging x).regions = s.regions := rfl
@[simp] theorem State.withStaging_capture (s : State) (x : Staging) : (s.withStaging x).capture = s.capture := rfl
@[simp] theorem State.withStaging_staging (s : State) (x : Staging) : (s.withStaging x).staging = x := rfl
@[simp] theorem State.withStaging_stream (s : State) (x : Staging) : (s.withStaging x).stream = s.stream := rfl
@[simp] theorem State.withStaging_log (s : State) (x : Staging) : (s.withStaging x).log = s.log := rfl
@[simp] theorem State.withStaging_rollback (s : State) (x : Staging) : (s.withStaging x).rollback = s.rollback := rfl
@[simp] theorem State.withStaging_scan (s : State) (x : Staging) : (s.withStaging x).scan = s.scan := rfl
@[simp] theorem State.withStaging_maintOffer (s : State) (x : Staging) : (s.withStaging x).maintOffer = s.maintOffer := rfl
@[simp] theorem State.withStaging_port (s : State) (x : Staging) : (s.withStaging x).port = s.port := rfl
@[simp] theorem State.withStaging_events (s : State) (x : Staging) : (s.withStaging x).events = s.events := rfl
@[simp] theorem State.withStaging_link (s : State) (x : Staging) : (s.withStaging x).link = s.link := rfl

/-! ### withStream -/

@[simp] theorem State.withStream_pending (s : State) (x : List StreamItem) : (s.withStream x).pending = s.pending := rfl
@[simp] theorem State.withStream_rstLow (s : State) (x : List StreamItem) : (s.withStream x).rstLow = s.rstLow := rfl
@[simp] theorem State.withStream_host (s : State) (x : List StreamItem) : (s.withStream x).host = s.host := rfl
@[simp] theorem State.withStream_window (s : State) (x : List StreamItem) : (s.withStream x).window = s.window := rfl
@[simp] theorem State.withStream_regions (s : State) (x : List StreamItem) : (s.withStream x).regions = s.regions := rfl
@[simp] theorem State.withStream_capture (s : State) (x : List StreamItem) : (s.withStream x).capture = s.capture := rfl
@[simp] theorem State.withStream_staging (s : State) (x : List StreamItem) : (s.withStream x).staging = s.staging := rfl
@[simp] theorem State.withStream_stream (s : State) (x : List StreamItem) : (s.withStream x).stream = x := rfl
@[simp] theorem State.withStream_log (s : State) (x : List StreamItem) : (s.withStream x).log = s.log := rfl
@[simp] theorem State.withStream_rollback (s : State) (x : List StreamItem) : (s.withStream x).rollback = s.rollback := rfl
@[simp] theorem State.withStream_scan (s : State) (x : List StreamItem) : (s.withStream x).scan = s.scan := rfl
@[simp] theorem State.withStream_maintOffer (s : State) (x : List StreamItem) : (s.withStream x).maintOffer = s.maintOffer := rfl
@[simp] theorem State.withStream_port (s : State) (x : List StreamItem) : (s.withStream x).port = s.port := rfl
@[simp] theorem State.withStream_events (s : State) (x : List StreamItem) : (s.withStream x).events = s.events := rfl
@[simp] theorem State.withStream_link (s : State) (x : List StreamItem) : (s.withStream x).link = s.link := rfl

/-! ### withLog -/

@[simp] theorem State.withLog_pending (s : State) (x : LogController) : (s.withLog x).pending = s.pending := rfl
@[simp] theorem State.withLog_rstLow (s : State) (x : LogController) : (s.withLog x).rstLow = s.rstLow := rfl
@[simp] theorem State.withLog_host (s : State) (x : LogController) : (s.withLog x).host = s.host := rfl
@[simp] theorem State.withLog_window (s : State) (x : LogController) : (s.withLog x).window = s.window := rfl
@[simp] theorem State.withLog_regions (s : State) (x : LogController) : (s.withLog x).regions = s.regions := rfl
@[simp] theorem State.withLog_capture (s : State) (x : LogController) : (s.withLog x).capture = s.capture := rfl
@[simp] theorem State.withLog_staging (s : State) (x : LogController) : (s.withLog x).staging = s.staging := rfl
@[simp] theorem State.withLog_stream (s : State) (x : LogController) : (s.withLog x).stream = s.stream := rfl
@[simp] theorem State.withLog_log (s : State) (x : LogController) : (s.withLog x).log = x := rfl
@[simp] theorem State.withLog_rollback (s : State) (x : LogController) : (s.withLog x).rollback = s.rollback := rfl
@[simp] theorem State.withLog_scan (s : State) (x : LogController) : (s.withLog x).scan = s.scan := rfl
@[simp] theorem State.withLog_maintOffer (s : State) (x : LogController) : (s.withLog x).maintOffer = s.maintOffer := rfl
@[simp] theorem State.withLog_port (s : State) (x : LogController) : (s.withLog x).port = s.port := rfl
@[simp] theorem State.withLog_events (s : State) (x : LogController) : (s.withLog x).events = s.events := rfl
@[simp] theorem State.withLog_link (s : State) (x : LogController) : (s.withLog x).link = s.link := rfl

/-! ### withRollback -/

@[simp] theorem State.withRollback_pending (s : State) (x : Option RollbackCursor) : (s.withRollback x).pending = s.pending := rfl
@[simp] theorem State.withRollback_rstLow (s : State) (x : Option RollbackCursor) : (s.withRollback x).rstLow = s.rstLow := rfl
@[simp] theorem State.withRollback_host (s : State) (x : Option RollbackCursor) : (s.withRollback x).host = s.host := rfl
@[simp] theorem State.withRollback_window (s : State) (x : Option RollbackCursor) : (s.withRollback x).window = s.window := rfl
@[simp] theorem State.withRollback_regions (s : State) (x : Option RollbackCursor) : (s.withRollback x).regions = s.regions := rfl
@[simp] theorem State.withRollback_capture (s : State) (x : Option RollbackCursor) : (s.withRollback x).capture = s.capture := rfl
@[simp] theorem State.withRollback_staging (s : State) (x : Option RollbackCursor) : (s.withRollback x).staging = s.staging := rfl
@[simp] theorem State.withRollback_stream (s : State) (x : Option RollbackCursor) : (s.withRollback x).stream = s.stream := rfl
@[simp] theorem State.withRollback_log (s : State) (x : Option RollbackCursor) : (s.withRollback x).log = s.log := rfl
@[simp] theorem State.withRollback_rollback (s : State) (x : Option RollbackCursor) : (s.withRollback x).rollback = x := rfl
@[simp] theorem State.withRollback_scan (s : State) (x : Option RollbackCursor) : (s.withRollback x).scan = s.scan := rfl
@[simp] theorem State.withRollback_maintOffer (s : State) (x : Option RollbackCursor) : (s.withRollback x).maintOffer = s.maintOffer := rfl
@[simp] theorem State.withRollback_port (s : State) (x : Option RollbackCursor) : (s.withRollback x).port = s.port := rfl
@[simp] theorem State.withRollback_events (s : State) (x : Option RollbackCursor) : (s.withRollback x).events = s.events := rfl
@[simp] theorem State.withRollback_link (s : State) (x : Option RollbackCursor) : (s.withRollback x).link = s.link := rfl

/-! ### withScan -/

@[simp] theorem State.withScan_pending (s : State) (x : Option ScanCursor) : (s.withScan x).pending = s.pending := rfl
@[simp] theorem State.withScan_rstLow (s : State) (x : Option ScanCursor) : (s.withScan x).rstLow = s.rstLow := rfl
@[simp] theorem State.withScan_host (s : State) (x : Option ScanCursor) : (s.withScan x).host = s.host := rfl
@[simp] theorem State.withScan_window (s : State) (x : Option ScanCursor) : (s.withScan x).window = s.window := rfl
@[simp] theorem State.withScan_regions (s : State) (x : Option ScanCursor) : (s.withScan x).regions = s.regions := rfl
@[simp] theorem State.withScan_capture (s : State) (x : Option ScanCursor) : (s.withScan x).capture = s.capture := rfl
@[simp] theorem State.withScan_staging (s : State) (x : Option ScanCursor) : (s.withScan x).staging = s.staging := rfl
@[simp] theorem State.withScan_stream (s : State) (x : Option ScanCursor) : (s.withScan x).stream = s.stream := rfl
@[simp] theorem State.withScan_log (s : State) (x : Option ScanCursor) : (s.withScan x).log = s.log := rfl
@[simp] theorem State.withScan_rollback (s : State) (x : Option ScanCursor) : (s.withScan x).rollback = s.rollback := rfl
@[simp] theorem State.withScan_scan (s : State) (x : Option ScanCursor) : (s.withScan x).scan = x := rfl
@[simp] theorem State.withScan_maintOffer (s : State) (x : Option ScanCursor) : (s.withScan x).maintOffer = s.maintOffer := rfl
@[simp] theorem State.withScan_port (s : State) (x : Option ScanCursor) : (s.withScan x).port = s.port := rfl
@[simp] theorem State.withScan_events (s : State) (x : Option ScanCursor) : (s.withScan x).events = s.events := rfl
@[simp] theorem State.withScan_link (s : State) (x : Option ScanCursor) : (s.withScan x).link = s.link := rfl

/-! ### withMaint -/

@[simp] theorem State.withMaint_pending (s : State) (x : Option MaintOffer) : (s.withMaint x).pending = s.pending := rfl
@[simp] theorem State.withMaint_rstLow (s : State) (x : Option MaintOffer) : (s.withMaint x).rstLow = s.rstLow := rfl
@[simp] theorem State.withMaint_host (s : State) (x : Option MaintOffer) : (s.withMaint x).host = s.host := rfl
@[simp] theorem State.withMaint_window (s : State) (x : Option MaintOffer) : (s.withMaint x).window = s.window := rfl
@[simp] theorem State.withMaint_regions (s : State) (x : Option MaintOffer) : (s.withMaint x).regions = s.regions := rfl
@[simp] theorem State.withMaint_capture (s : State) (x : Option MaintOffer) : (s.withMaint x).capture = s.capture := rfl
@[simp] theorem State.withMaint_staging (s : State) (x : Option MaintOffer) : (s.withMaint x).staging = s.staging := rfl
@[simp] theorem State.withMaint_stream (s : State) (x : Option MaintOffer) : (s.withMaint x).stream = s.stream := rfl
@[simp] theorem State.withMaint_log (s : State) (x : Option MaintOffer) : (s.withMaint x).log = s.log := rfl
@[simp] theorem State.withMaint_rollback (s : State) (x : Option MaintOffer) : (s.withMaint x).rollback = s.rollback := rfl
@[simp] theorem State.withMaint_scan (s : State) (x : Option MaintOffer) : (s.withMaint x).scan = s.scan := rfl
@[simp] theorem State.withMaint_maintOffer (s : State) (x : Option MaintOffer) : (s.withMaint x).maintOffer = x := rfl
@[simp] theorem State.withMaint_port (s : State) (x : Option MaintOffer) : (s.withMaint x).port = s.port := rfl
@[simp] theorem State.withMaint_events (s : State) (x : Option MaintOffer) : (s.withMaint x).events = s.events := rfl
@[simp] theorem State.withMaint_link (s : State) (x : Option MaintOffer) : (s.withMaint x).link = s.link := rfl

/-! ### withPort -/

@[simp] theorem State.withPort_pending (s : State) (x : MemoryPort) : (s.withPort x).pending = s.pending := rfl
@[simp] theorem State.withPort_rstLow (s : State) (x : MemoryPort) : (s.withPort x).rstLow = s.rstLow := rfl
@[simp] theorem State.withPort_host (s : State) (x : MemoryPort) : (s.withPort x).host = s.host := rfl
@[simp] theorem State.withPort_window (s : State) (x : MemoryPort) : (s.withPort x).window = s.window := rfl
@[simp] theorem State.withPort_regions (s : State) (x : MemoryPort) : (s.withPort x).regions = s.regions := rfl
@[simp] theorem State.withPort_capture (s : State) (x : MemoryPort) : (s.withPort x).capture = s.capture := rfl
@[simp] theorem State.withPort_staging (s : State) (x : MemoryPort) : (s.withPort x).staging = s.staging := rfl
@[simp] theorem State.withPort_stream (s : State) (x : MemoryPort) : (s.withPort x).stream = s.stream := rfl
@[simp] theorem State.withPort_log (s : State) (x : MemoryPort) : (s.withPort x).log = s.log := rfl
@[simp] theorem State.withPort_rollback (s : State) (x : MemoryPort) : (s.withPort x).rollback = s.rollback := rfl
@[simp] theorem State.withPort_scan (s : State) (x : MemoryPort) : (s.withPort x).scan = s.scan := rfl
@[simp] theorem State.withPort_maintOffer (s : State) (x : MemoryPort) : (s.withPort x).maintOffer = s.maintOffer := rfl
@[simp] theorem State.withPort_port (s : State) (x : MemoryPort) : (s.withPort x).port = x := rfl
@[simp] theorem State.withPort_events (s : State) (x : MemoryPort) : (s.withPort x).events = s.events := rfl
@[simp] theorem State.withPort_link (s : State) (x : MemoryPort) : (s.withPort x).link = s.link := rfl

/-! ### withEvents -/

@[simp] theorem State.withEvents_pending (s : State) (x : EventQueue) : (s.withEvents x).pending = s.pending := rfl
@[simp] theorem State.withEvents_rstLow (s : State) (x : EventQueue) : (s.withEvents x).rstLow = s.rstLow := rfl
@[simp] theorem State.withEvents_host (s : State) (x : EventQueue) : (s.withEvents x).host = s.host := rfl
@[simp] theorem State.withEvents_window (s : State) (x : EventQueue) : (s.withEvents x).window = s.window := rfl
@[simp] theorem State.withEvents_regions (s : State) (x : EventQueue) : (s.withEvents x).regions = s.regions := rfl
@[simp] theorem State.withEvents_capture (s : State) (x : EventQueue) : (s.withEvents x).capture = s.capture := rfl
@[simp] theorem State.withEvents_staging (s : State) (x : EventQueue) : (s.withEvents x).staging = s.staging := rfl
@[simp] theorem State.withEvents_stream (s : State) (x : EventQueue) : (s.withEvents x).stream = s.stream := rfl
@[simp] theorem State.withEvents_log (s : State) (x : EventQueue) : (s.withEvents x).log = s.log := rfl
@[simp] theorem State.withEvents_rollback (s : State) (x : EventQueue) : (s.withEvents x).rollback = s.rollback := rfl
@[simp] theorem State.withEvents_scan (s : State) (x : EventQueue) : (s.withEvents x).scan = s.scan := rfl
@[simp] theorem State.withEvents_maintOffer (s : State) (x : EventQueue) : (s.withEvents x).maintOffer = s.maintOffer := rfl
@[simp] theorem State.withEvents_port (s : State) (x : EventQueue) : (s.withEvents x).port = s.port := rfl
@[simp] theorem State.withEvents_events (s : State) (x : EventQueue) : (s.withEvents x).events = x := rfl
@[simp] theorem State.withEvents_link (s : State) (x : EventQueue) : (s.withEvents x).link = s.link := rfl

/-! ### withLink -/

@[simp] theorem State.withLink_pending (s : State) (x : Link) : (s.withLink x).pending = s.pending := rfl
@[simp] theorem State.withLink_rstLow (s : State) (x : Link) : (s.withLink x).rstLow = s.rstLow := rfl
@[simp] theorem State.withLink_host (s : State) (x : Link) : (s.withLink x).host = s.host := rfl
@[simp] theorem State.withLink_window (s : State) (x : Link) : (s.withLink x).window = s.window := rfl
@[simp] theorem State.withLink_regions (s : State) (x : Link) : (s.withLink x).regions = s.regions := rfl
@[simp] theorem State.withLink_capture (s : State) (x : Link) : (s.withLink x).capture = s.capture := rfl
@[simp] theorem State.withLink_staging (s : State) (x : Link) : (s.withLink x).staging = s.staging := rfl
@[simp] theorem State.withLink_stream (s : State) (x : Link) : (s.withLink x).stream = s.stream := rfl
@[simp] theorem State.withLink_log (s : State) (x : Link) : (s.withLink x).log = s.log := rfl
@[simp] theorem State.withLink_rollback (s : State) (x : Link) : (s.withLink x).rollback = s.rollback := rfl
@[simp] theorem State.withLink_scan (s : State) (x : Link) : (s.withLink x).scan = s.scan := rfl
@[simp] theorem State.withLink_maintOffer (s : State) (x : Link) : (s.withLink x).maintOffer = s.maintOffer := rfl
@[simp] theorem State.withLink_port (s : State) (x : Link) : (s.withLink x).port = s.port := rfl
@[simp] theorem State.withLink_events (s : State) (x : Link) : (s.withLink x).events = s.events := rfl
@[simp] theorem State.withLink_link (s : State) (x : Link) : (s.withLink x).link = x := rfl

/-! ### modLog -/

@[simp] theorem State.modLog_pending (s : State) (f : LogController → LogController) : (s.modLog f).pending = s.pending := rfl
@[simp] theorem State.modLog_rstLow (s : State) (f : LogController → LogController) : (s.modLog f).rstLow = s.rstLow := rfl
@[simp] theorem State.modLog_host (s : State) (f : LogController → LogController) : (s.modLog f).host = s.host := rfl
@[simp] theorem State.modLog_window (s : State) (f : LogController → LogController) : (s.modLog f).window = s.window := rfl
@[simp] theorem State.modLog_regions (s : State) (f : LogController → LogController) : (s.modLog f).regions = s.regions := rfl
@[simp] theorem State.modLog_capture (s : State) (f : LogController → LogController) : (s.modLog f).capture = s.capture := rfl
@[simp] theorem State.modLog_staging (s : State) (f : LogController → LogController) : (s.modLog f).staging = s.staging := rfl
@[simp] theorem State.modLog_stream (s : State) (f : LogController → LogController) : (s.modLog f).stream = s.stream := rfl
@[simp] theorem State.modLog_log (s : State) (f : LogController → LogController) : (s.modLog f).log = f s.log := rfl
@[simp] theorem State.modLog_rollback (s : State) (f : LogController → LogController) : (s.modLog f).rollback = s.rollback := rfl
@[simp] theorem State.modLog_scan (s : State) (f : LogController → LogController) : (s.modLog f).scan = s.scan := rfl
@[simp] theorem State.modLog_maintOffer (s : State) (f : LogController → LogController) : (s.modLog f).maintOffer = s.maintOffer := rfl
@[simp] theorem State.modLog_port (s : State) (f : LogController → LogController) : (s.modLog f).port = s.port := rfl
@[simp] theorem State.modLog_events (s : State) (f : LogController → LogController) : (s.modLog f).events = s.events := rfl
@[simp] theorem State.modLog_link (s : State) (f : LogController → LogController) : (s.modLog f).link = s.link := rfl

/-! ### modCapture -/

@[simp] theorem State.modCapture_pending (s : State) (f : CaptureUnit → CaptureUnit) : (s.modCapture f).pending = s.pending := rfl
@[simp] theorem State.modCapture_rstLow (s : State) (f : CaptureUnit → CaptureUnit) : (s.modCapture f).rstLow = s.rstLow := rfl
@[simp] theorem State.modCapture_host (s : State) (f : CaptureUnit → CaptureUnit) : (s.modCapture f).host = s.host := rfl
@[simp] theorem State.modCapture_window (s : State) (f : CaptureUnit → CaptureUnit) : (s.modCapture f).window = s.window := rfl
@[simp] theorem State.modCapture_regions (s : State) (f : CaptureUnit → CaptureUnit) : (s.modCapture f).regions = s.regions := rfl
@[simp] theorem State.modCapture_capture (s : State) (f : CaptureUnit → CaptureUnit) : (s.modCapture f).capture = f s.capture := rfl
@[simp] theorem State.modCapture_staging (s : State) (f : CaptureUnit → CaptureUnit) : (s.modCapture f).staging = s.staging := rfl
@[simp] theorem State.modCapture_stream (s : State) (f : CaptureUnit → CaptureUnit) : (s.modCapture f).stream = s.stream := rfl
@[simp] theorem State.modCapture_log (s : State) (f : CaptureUnit → CaptureUnit) : (s.modCapture f).log = s.log := rfl
@[simp] theorem State.modCapture_rollback (s : State) (f : CaptureUnit → CaptureUnit) : (s.modCapture f).rollback = s.rollback := rfl
@[simp] theorem State.modCapture_scan (s : State) (f : CaptureUnit → CaptureUnit) : (s.modCapture f).scan = s.scan := rfl
@[simp] theorem State.modCapture_maintOffer (s : State) (f : CaptureUnit → CaptureUnit) : (s.modCapture f).maintOffer = s.maintOffer := rfl
@[simp] theorem State.modCapture_port (s : State) (f : CaptureUnit → CaptureUnit) : (s.modCapture f).port = s.port := rfl
@[simp] theorem State.modCapture_events (s : State) (f : CaptureUnit → CaptureUnit) : (s.modCapture f).events = s.events := rfl
@[simp] theorem State.modCapture_link (s : State) (f : CaptureUnit → CaptureUnit) : (s.modCapture f).link = s.link := rfl

/-! ### modStaging -/

@[simp] theorem State.modStaging_pending (s : State) (f : Staging → Staging) : (s.modStaging f).pending = s.pending := rfl
@[simp] theorem State.modStaging_rstLow (s : State) (f : Staging → Staging) : (s.modStaging f).rstLow = s.rstLow := rfl
@[simp] theorem State.modStaging_host (s : State) (f : Staging → Staging) : (s.modStaging f).host = s.host := rfl
@[simp] theorem State.modStaging_window (s : State) (f : Staging → Staging) : (s.modStaging f).window = s.window := rfl
@[simp] theorem State.modStaging_regions (s : State) (f : Staging → Staging) : (s.modStaging f).regions = s.regions := rfl
@[simp] theorem State.modStaging_capture (s : State) (f : Staging → Staging) : (s.modStaging f).capture = s.capture := rfl
@[simp] theorem State.modStaging_staging (s : State) (f : Staging → Staging) : (s.modStaging f).staging = f s.staging := rfl
@[simp] theorem State.modStaging_stream (s : State) (f : Staging → Staging) : (s.modStaging f).stream = s.stream := rfl
@[simp] theorem State.modStaging_log (s : State) (f : Staging → Staging) : (s.modStaging f).log = s.log := rfl
@[simp] theorem State.modStaging_rollback (s : State) (f : Staging → Staging) : (s.modStaging f).rollback = s.rollback := rfl
@[simp] theorem State.modStaging_scan (s : State) (f : Staging → Staging) : (s.modStaging f).scan = s.scan := rfl
@[simp] theorem State.modStaging_maintOffer (s : State) (f : Staging → Staging) : (s.modStaging f).maintOffer = s.maintOffer := rfl
@[simp] theorem State.modStaging_port (s : State) (f : Staging → Staging) : (s.modStaging f).port = s.port := rfl
@[simp] theorem State.modStaging_events (s : State) (f : Staging → Staging) : (s.modStaging f).events = s.events := rfl
@[simp] theorem State.modStaging_link (s : State) (f : Staging → Staging) : (s.modStaging f).link = s.link := rfl

/-! ### modStream -/

@[simp] theorem State.modStream_pending (s : State) (f : List StreamItem → List StreamItem) : (s.modStream f).pending = s.pending := rfl
@[simp] theorem State.modStream_rstLow (s : State) (f : List StreamItem → List StreamItem) : (s.modStream f).rstLow = s.rstLow := rfl
@[simp] theorem State.modStream_host (s : State) (f : List StreamItem → List StreamItem) : (s.modStream f).host = s.host := rfl
@[simp] theorem State.modStream_window (s : State) (f : List StreamItem → List StreamItem) : (s.modStream f).window = s.window := rfl
@[simp] theorem State.modStream_regions (s : State) (f : List StreamItem → List StreamItem) : (s.modStream f).regions = s.regions := rfl
@[simp] theorem State.modStream_capture (s : State) (f : List StreamItem → List StreamItem) : (s.modStream f).capture = s.capture := rfl
@[simp] theorem State.modStream_staging (s : State) (f : List StreamItem → List StreamItem) : (s.modStream f).staging = s.staging := rfl
@[simp] theorem State.modStream_stream (s : State) (f : List StreamItem → List StreamItem) : (s.modStream f).stream = f s.stream := rfl
@[simp] theorem State.modStream_log (s : State) (f : List StreamItem → List StreamItem) : (s.modStream f).log = s.log := rfl
@[simp] theorem State.modStream_rollback (s : State) (f : List StreamItem → List StreamItem) : (s.modStream f).rollback = s.rollback := rfl
@[simp] theorem State.modStream_scan (s : State) (f : List StreamItem → List StreamItem) : (s.modStream f).scan = s.scan := rfl
@[simp] theorem State.modStream_maintOffer (s : State) (f : List StreamItem → List StreamItem) : (s.modStream f).maintOffer = s.maintOffer := rfl
@[simp] theorem State.modStream_port (s : State) (f : List StreamItem → List StreamItem) : (s.modStream f).port = s.port := rfl
@[simp] theorem State.modStream_events (s : State) (f : List StreamItem → List StreamItem) : (s.modStream f).events = s.events := rfl
@[simp] theorem State.modStream_link (s : State) (f : List StreamItem → List StreamItem) : (s.modStream f).link = s.link := rfl

/-! ### modPort -/

@[simp] theorem State.modPort_pending (s : State) (f : MemoryPort → MemoryPort) : (s.modPort f).pending = s.pending := rfl
@[simp] theorem State.modPort_rstLow (s : State) (f : MemoryPort → MemoryPort) : (s.modPort f).rstLow = s.rstLow := rfl
@[simp] theorem State.modPort_host (s : State) (f : MemoryPort → MemoryPort) : (s.modPort f).host = s.host := rfl
@[simp] theorem State.modPort_window (s : State) (f : MemoryPort → MemoryPort) : (s.modPort f).window = s.window := rfl
@[simp] theorem State.modPort_regions (s : State) (f : MemoryPort → MemoryPort) : (s.modPort f).regions = s.regions := rfl
@[simp] theorem State.modPort_capture (s : State) (f : MemoryPort → MemoryPort) : (s.modPort f).capture = s.capture := rfl
@[simp] theorem State.modPort_staging (s : State) (f : MemoryPort → MemoryPort) : (s.modPort f).staging = s.staging := rfl
@[simp] theorem State.modPort_stream (s : State) (f : MemoryPort → MemoryPort) : (s.modPort f).stream = s.stream := rfl
@[simp] theorem State.modPort_log (s : State) (f : MemoryPort → MemoryPort) : (s.modPort f).log = s.log := rfl
@[simp] theorem State.modPort_rollback (s : State) (f : MemoryPort → MemoryPort) : (s.modPort f).rollback = s.rollback := rfl
@[simp] theorem State.modPort_scan (s : State) (f : MemoryPort → MemoryPort) : (s.modPort f).scan = s.scan := rfl
@[simp] theorem State.modPort_maintOffer (s : State) (f : MemoryPort → MemoryPort) : (s.modPort f).maintOffer = s.maintOffer := rfl
@[simp] theorem State.modPort_port (s : State) (f : MemoryPort → MemoryPort) : (s.modPort f).port = f s.port := rfl
@[simp] theorem State.modPort_events (s : State) (f : MemoryPort → MemoryPort) : (s.modPort f).events = s.events := rfl
@[simp] theorem State.modPort_link (s : State) (f : MemoryPort → MemoryPort) : (s.modPort f).link = s.link := rfl

/-! ### modHost -/

@[simp] theorem State.modHost_pending (s : State) (f : HostPort → HostPort) : (s.modHost f).pending = s.pending := rfl
@[simp] theorem State.modHost_rstLow (s : State) (f : HostPort → HostPort) : (s.modHost f).rstLow = s.rstLow := rfl
@[simp] theorem State.modHost_host (s : State) (f : HostPort → HostPort) : (s.modHost f).host = f s.host := rfl
@[simp] theorem State.modHost_window (s : State) (f : HostPort → HostPort) : (s.modHost f).window = s.window := rfl
@[simp] theorem State.modHost_regions (s : State) (f : HostPort → HostPort) : (s.modHost f).regions = s.regions := rfl
@[simp] theorem State.modHost_capture (s : State) (f : HostPort → HostPort) : (s.modHost f).capture = s.capture := rfl
@[simp] theorem State.modHost_staging (s : State) (f : HostPort → HostPort) : (s.modHost f).staging = s.staging := rfl
@[simp] theorem State.modHost_stream (s : State) (f : HostPort → HostPort) : (s.modHost f).stream = s.stream := rfl
@[simp] theorem State.modHost_log (s : State) (f : HostPort → HostPort) : (s.modHost f).log = s.log := rfl
@[simp] theorem State.modHost_rollback (s : State) (f : HostPort → HostPort) : (s.modHost f).rollback = s.rollback := rfl
@[simp] theorem State.modHost_scan (s : State) (f : HostPort → HostPort) : (s.modHost f).scan = s.scan := rfl
@[simp] theorem State.modHost_maintOffer (s : State) (f : HostPort → HostPort) : (s.modHost f).maintOffer = s.maintOffer := rfl
@[simp] theorem State.modHost_port (s : State) (f : HostPort → HostPort) : (s.modHost f).port = s.port := rfl
@[simp] theorem State.modHost_events (s : State) (f : HostPort → HostPort) : (s.modHost f).events = s.events := rfl
@[simp] theorem State.modHost_link (s : State) (f : HostPort → HostPort) : (s.modHost f).link = s.link := rfl

/-! ### modEvents -/

@[simp] theorem State.modEvents_pending (s : State) (f : EventQueue → EventQueue) : (s.modEvents f).pending = s.pending := rfl
@[simp] theorem State.modEvents_rstLow (s : State) (f : EventQueue → EventQueue) : (s.modEvents f).rstLow = s.rstLow := rfl
@[simp] theorem State.modEvents_host (s : State) (f : EventQueue → EventQueue) : (s.modEvents f).host = s.host := rfl
@[simp] theorem State.modEvents_window (s : State) (f : EventQueue → EventQueue) : (s.modEvents f).window = s.window := rfl
@[simp] theorem State.modEvents_regions (s : State) (f : EventQueue → EventQueue) : (s.modEvents f).regions = s.regions := rfl
@[simp] theorem State.modEvents_capture (s : State) (f : EventQueue → EventQueue) : (s.modEvents f).capture = s.capture := rfl
@[simp] theorem State.modEvents_staging (s : State) (f : EventQueue → EventQueue) : (s.modEvents f).staging = s.staging := rfl
@[simp] theorem State.modEvents_stream (s : State) (f : EventQueue → EventQueue) : (s.modEvents f).stream = s.stream := rfl
@[simp] theorem State.modEvents_log (s : State) (f : EventQueue → EventQueue) : (s.modEvents f).log = s.log := rfl
@[simp] theorem State.modEvents_rollback (s : State) (f : EventQueue → EventQueue) : (s.modEvents f).rollback = s.rollback := rfl
@[simp] theorem State.modEvents_scan (s : State) (f : EventQueue → EventQueue) : (s.modEvents f).scan = s.scan := rfl
@[simp] theorem State.modEvents_maintOffer (s : State) (f : EventQueue → EventQueue) : (s.modEvents f).maintOffer = s.maintOffer := rfl
@[simp] theorem State.modEvents_port (s : State) (f : EventQueue → EventQueue) : (s.modEvents f).port = s.port := rfl
@[simp] theorem State.modEvents_events (s : State) (f : EventQueue → EventQueue) : (s.modEvents f).events = f s.events := rfl
@[simp] theorem State.modEvents_link (s : State) (f : EventQueue → EventQueue) : (s.modEvents f).link = s.link := rfl

/-! ### The mark list as it is reported (R133) -/

@[simp] theorem LogController.listedMarks_scanning (l : LogController) (h : l.engine = .scanning) : l.listedMarks = [] := by
  simp [LogController.listedMarks, h]

@[simp] theorem LogController.listedMarks_of_not_scanning (l : LogController) (h : l.engine ≠ .scanning) :
    l.listedMarks = l.marks := by simp [LogController.listedMarks, h]

end Sys2Proof.Machine
end

