-- ==== Sys2Proof/Laws/Frames.lean ====
section
/-! SUPPORT. Frames of the shared operations: the blocks each operation leaves as they are, one lemma per block. -/

namespace Sys2Proof.Machine

/-! ### post -/

@[simp] theorem State.post_pending (s : State) (k : EventKind) (a : Option Num) (r : Option Requester) (d : Detail) : (s.post k a r d).pending = s.pending := rfl
@[simp] theorem State.post_rstLow (s : State) (k : EventKind) (a : Option Num) (r : Option Requester) (d : Detail) : (s.post k a r d).rstLow = s.rstLow := rfl
@[simp] theorem State.post_host (s : State) (k : EventKind) (a : Option Num) (r : Option Requester) (d : Detail) : (s.post k a r d).host = s.host := rfl
@[simp] theorem State.post_window (s : State) (k : EventKind) (a : Option Num) (r : Option Requester) (d : Detail) : (s.post k a r d).window = s.window := rfl
@[simp] theorem State.post_regions (s : State) (k : EventKind) (a : Option Num) (r : Option Requester) (d : Detail) : (s.post k a r d).regions = s.regions := rfl
@[simp] theorem State.post_capture (s : State) (k : EventKind) (a : Option Num) (r : Option Requester) (d : Detail) : (s.post k a r d).capture = s.capture := rfl
@[simp] theorem State.post_staging (s : State) (k : EventKind) (a : Option Num) (r : Option Requester) (d : Detail) : (s.post k a r d).staging = s.staging := rfl
@[simp] theorem State.post_stream (s : State) (k : EventKind) (a : Option Num) (r : Option Requester) (d : Detail) : (s.post k a r d).stream = s.stream := rfl
@[simp] theorem State.post_log (s : State) (k : EventKind) (a : Option Num) (r : Option Requester) (d : Detail) : (s.post k a r d).log = s.log := rfl
@[simp] theorem State.post_rollback (s : State) (k : EventKind) (a : Option Num) (r : Option Requester) (d : Detail) : (s.post k a r d).rollback = s.rollback := rfl
@[simp] theorem State.post_scan (s : State) (k : EventKind) (a : Option Num) (r : Option Requester) (d : Detail) : (s.post k a r d).scan = s.scan := rfl
@[simp] theorem State.post_maintOffer (s : State) (k : EventKind) (a : Option Num) (r : Option Requester) (d : Detail) : (s.post k a r d).maintOffer = s.maintOffer := rfl
@[simp] theorem State.post_port (s : State) (k : EventKind) (a : Option Num) (r : Option Requester) (d : Detail) : (s.post k a r d).port = s.port := rfl
@[simp] theorem State.post_link (s : State) (k : EventKind) (a : Option Num) (r : Option Requester) (d : Detail) : (s.post k a r d).link = s.link := rfl

/-! ### report -/

@[simp] theorem State.report_pending (s : State) (k : EventKind) (d : Detail) : (s.report k d).pending = s.pending := rfl
@[simp] theorem State.report_rstLow (s : State) (k : EventKind) (d : Detail) : (s.report k d).rstLow = s.rstLow := rfl
@[simp] theorem State.report_host (s : State) (k : EventKind) (d : Detail) : (s.report k d).host = s.host := rfl
@[simp] theorem State.report_window (s : State) (k : EventKind) (d : Detail) : (s.report k d).window = s.window := rfl
@[simp] theorem State.report_regions (s : State) (k : EventKind) (d : Detail) : (s.report k d).regions = s.regions := rfl
@[simp] theorem State.report_capture (s : State) (k : EventKind) (d : Detail) : (s.report k d).capture = s.capture := rfl
@[simp] theorem State.report_staging (s : State) (k : EventKind) (d : Detail) : (s.report k d).staging = s.staging := rfl
@[simp] theorem State.report_stream (s : State) (k : EventKind) (d : Detail) : (s.report k d).stream = s.stream := rfl
@[simp] theorem State.report_log (s : State) (k : EventKind) (d : Detail) : (s.report k d).log = s.log := rfl
@[simp] theorem State.report_rollback (s : State) (k : EventKind) (d : Detail) : (s.report k d).rollback = s.rollback := rfl
@[simp] theorem State.report_scan (s : State) (k : EventKind) (d : Detail) : (s.report k d).scan = s.scan := rfl
@[simp] theorem State.report_maintOffer (s : State) (k : EventKind) (d : Detail) : (s.report k d).maintOffer = s.maintOffer := rfl
@[simp] theorem State.report_port (s : State) (k : EventKind) (d : Detail) : (s.report k d).port = s.port := rfl
@[simp] theorem State.report_link (s : State) (k : EventKind) (d : Detail) : (s.report k d).link = s.link := rfl

/-! ### postRefused -/

@[simp] theorem State.postRefused_pending (s : State) (r : RefusalReason) (e : Entry) : (s.postRefused r e).pending = s.pending := rfl
@[simp] theorem State.postRefused_rstLow (s : State) (r : RefusalReason) (e : Entry) : (s.postRefused r e).rstLow = s.rstLow := rfl
@[simp] theorem State.postRefused_host (s : State) (r : RefusalReason) (e : Entry) : (s.postRefused r e).host = s.host := rfl
@[simp] theorem State.postRefused_window (s : State) (r : RefusalReason) (e : Entry) : (s.postRefused r e).window = s.window := rfl
@[simp] theorem State.postRefused_regions (s : State) (r : RefusalReason) (e : Entry) : (s.postRefused r e).regions = s.regions := rfl
@[simp] theorem State.postRefused_capture (s : State) (r : RefusalReason) (e : Entry) : (s.postRefused r e).capture = s.capture := rfl
@[simp] theorem State.postRefused_staging (s : State) (r : RefusalReason) (e : Entry) : (s.postRefused r e).staging = s.staging := rfl
@[simp] theorem State.postRefused_stream (s : State) (r : RefusalReason) (e : Entry) : (s.postRefused r e).stream = s.stream := rfl
@[simp] theorem State.postRefused_log (s : State) (r : RefusalReason) (e : Entry) : (s.postRefused r e).log = s.log := rfl
@[simp] theorem State.postRefused_rollback (s : State) (r : RefusalReason) (e : Entry) : (s.postRefused r e).rollback = s.rollback := rfl
@[simp] theorem State.postRefused_scan (s : State) (r : RefusalReason) (e : Entry) : (s.postRefused r e).scan = s.scan := rfl
@[simp] theorem State.postRefused_maintOffer (s : State) (r : RefusalReason) (e : Entry) : (s.postRefused r e).maintOffer = s.maintOffer := rfl
@[simp] theorem State.postRefused_port (s : State) (r : RefusalReason) (e : Entry) : (s.postRefused r e).port = s.port := rfl
@[simp] theorem State.postRefused_link (s : State) (r : RefusalReason) (e : Entry) : (s.postRefused r e).link = s.link := rfl

/-! ### setEngine -/

@[simp] theorem State.setEngine_pending (s : State) (x : EngineState) : (s.setEngine x).pending = s.pending := rfl
@[simp] theorem State.setEngine_rstLow (s : State) (x : EngineState) : (s.setEngine x).rstLow = s.rstLow := rfl
@[simp] theorem State.setEngine_host (s : State) (x : EngineState) : (s.setEngine x).host = s.host := rfl
@[simp] theorem State.setEngine_window (s : State) (x : EngineState) : (s.setEngine x).window = s.window := rfl
@[simp] theorem State.setEngine_regions (s : State) (x : EngineState) : (s.setEngine x).regions = s.regions := rfl
@[simp] theorem State.setEngine_capture (s : State) (x : EngineState) : (s.setEngine x).capture = s.capture := rfl
@[simp] theorem State.setEngine_staging (s : State) (x : EngineState) : (s.setEngine x).staging = s.staging := rfl
@[simp] theorem State.setEngine_stream (s : State) (x : EngineState) : (s.setEngine x).stream = s.stream := rfl
@[simp] theorem State.setEngine_rollback (s : State) (x : EngineState) : (s.setEngine x).rollback = s.rollback := rfl
@[simp] theorem State.setEngine_scan (s : State) (x : EngineState) : (s.setEngine x).scan = s.scan := rfl
@[simp] theorem State.setEngine_maintOffer (s : State) (x : EngineState) : (s.setEngine x).maintOffer = s.maintOffer := rfl
@[simp] theorem State.setEngine_port (s : State) (x : EngineState) : (s.setEngine x).port = s.port := rfl
@[simp] theorem State.setEngine_events (s : State) (x : EngineState) : (s.setEngine x).events = s.events := rfl
@[simp] theorem State.setEngine_link (s : State) (x : EngineState) : (s.setEngine x).link = s.link := rfl

/-! ### oweWalk -/

@[simp] theorem State.oweWalk_pending (s : State) : (s.oweWalk).pending = s.pending := rfl
@[simp] theorem State.oweWalk_rstLow (s : State) : (s.oweWalk).rstLow = s.rstLow := rfl
@[simp] theorem State.oweWalk_host (s : State) : (s.oweWalk).host = s.host := rfl
@[simp] theorem State.oweWalk_window (s : State) : (s.oweWalk).window = s.window := rfl
@[simp] theorem State.oweWalk_regions (s : State) : (s.oweWalk).regions = s.regions := rfl
@[simp] theorem State.oweWalk_staging (s : State) : (s.oweWalk).staging = s.staging := rfl
@[simp] theorem State.oweWalk_stream (s : State) : (s.oweWalk).stream = s.stream := rfl
@[simp] theorem State.oweWalk_log (s : State) : (s.oweWalk).log = s.log := rfl
@[simp] theorem State.oweWalk_rollback (s : State) : (s.oweWalk).rollback = s.rollback := rfl
@[simp] theorem State.oweWalk_scan (s : State) : (s.oweWalk).scan = s.scan := rfl
@[simp] theorem State.oweWalk_maintOffer (s : State) : (s.oweWalk).maintOffer = s.maintOffer := rfl
@[simp] theorem State.oweWalk_port (s : State) : (s.oweWalk).port = s.port := rfl
@[simp] theorem State.oweWalk_events (s : State) : (s.oweWalk).events = s.events := rfl
@[simp] theorem State.oweWalk_link (s : State) : (s.oweWalk).link = s.link := rfl

/-! ### oweWalkIf -/

@[simp] theorem State.oweWalkIf_pending (s : State) (c : Bool) : (s.oweWalkIf c).pending = s.pending := by cases c <;> rfl
@[simp] theorem State.oweWalkIf_rstLow (s : State) (c : Bool) : (s.oweWalkIf c).rstLow = s.rstLow := by cases c <;> rfl
@[simp] theorem State.oweWalkIf_host (s : State) (c : Bool) : (s.oweWalkIf c).host = s.host := by cases c <;> rfl
@[simp] theorem State.oweWalkIf_window (s : State) (c : Bool) : (s.oweWalkIf c).window = s.window := by cases c <;> rfl
@[simp] theorem State.oweWalkIf_regions (s : State) (c : Bool) : (s.oweWalkIf c).regions = s.regions := by cases c <;> rfl
@[simp] theorem State.oweWalkIf_staging (s : State) (c : Bool) : (s.oweWalkIf c).staging = s.staging := by cases c <;> rfl
@[simp] theorem State.oweWalkIf_stream (s : State) (c : Bool) : (s.oweWalkIf c).stream = s.stream := by cases c <;> rfl
@[simp] theorem State.oweWalkIf_log (s : State) (c : Bool) : (s.oweWalkIf c).log = s.log := by cases c <;> rfl
@[simp] theorem State.oweWalkIf_rollback (s : State) (c : Bool) : (s.oweWalkIf c).rollback = s.rollback := by cases c <;> rfl
@[simp] theorem State.oweWalkIf_scan (s : State) (c : Bool) : (s.oweWalkIf c).scan = s.scan := by cases c <;> rfl
@[simp] theorem State.oweWalkIf_maintOffer (s : State) (c : Bool) : (s.oweWalkIf c).maintOffer = s.maintOffer := by cases c <;> rfl
@[simp] theorem State.oweWalkIf_port (s : State) (c : Bool) : (s.oweWalkIf c).port = s.port := by cases c <;> rfl
@[simp] theorem State.oweWalkIf_events (s : State) (c : Bool) : (s.oweWalkIf c).events = s.events := by cases c <;> rfl
@[simp] theorem State.oweWalkIf_link (s : State) (c : Bool) : (s.oweWalkIf c).link = s.link := by cases c <;> rfl

/-! ### setLowSpace -/

@[simp] theorem State.setLowSpace_pending (s : State) (b : Bool) : (s.setLowSpace b).pending = s.pending := rfl
@[simp] theorem State.setLowSpace_rstLow (s : State) (b : Bool) : (s.setLowSpace b).rstLow = s.rstLow := rfl
@[simp] theorem State.setLowSpace_host (s : State) (b : Bool) : (s.setLowSpace b).host = s.host := rfl
@[simp] theorem State.setLowSpace_window (s : State) (b : Bool) : (s.setLowSpace b).window = s.window := rfl
@[simp] theorem State.setLowSpace_regions (s : State) (b : Bool) : (s.setLowSpace b).regions = s.regions := rfl
@[simp] theorem State.setLowSpace_capture (s : State) (b : Bool) : (s.setLowSpace b).capture = s.capture := rfl
@[simp] theorem State.setLowSpace_staging (s : State) (b : Bool) : (s.setLowSpace b).staging = s.staging := rfl
@[simp] theorem State.setLowSpace_stream (s : State) (b : Bool) : (s.setLowSpace b).stream = s.stream := rfl
@[simp] theorem State.setLowSpace_rollback (s : State) (b : Bool) : (s.setLowSpace b).rollback = s.rollback := rfl
@[simp] theorem State.setLowSpace_scan (s : State) (b : Bool) : (s.setLowSpace b).scan = s.scan := rfl
@[simp] theorem State.setLowSpace_maintOffer (s : State) (b : Bool) : (s.setLowSpace b).maintOffer = s.maintOffer := rfl
@[simp] theorem State.setLowSpace_port (s : State) (b : Bool) : (s.setLowSpace b).port = s.port := rfl
@[simp] theorem State.setLowSpace_events (s : State) (b : Bool) : (s.setLowSpace b).events = s.events := rfl
@[simp] theorem State.setLowSpace_link (s : State) (b : Bool) : (s.setLowSpace b).link = s.link := rfl

/-! ### mapEntries -/

@[simp] theorem State.mapEntries_pending (s : State) (p : Entry → Bool) (f : Entry → Entry) : (s.mapEntries p f).pending = s.pending := rfl
@[simp] theorem State.mapEntries_rstLow (s : State) (p : Entry → Bool) (f : Entry → Entry) : (s.mapEntries p f).rstLow = s.rstLow := rfl
@[simp] theorem State.mapEntries_host (s : State) (p : Entry → Bool) (f : Entry → Entry) : (s.mapEntries p f).host = s.host := rfl
@[simp] theorem State.mapEntries_regions (s : State) (p : Entry → Bool) (f : Entry → Entry) : (s.mapEntries p f).regions = s.regions := rfl
@[simp] theorem State.mapEntries_capture (s : State) (p : Entry → Bool) (f : Entry → Entry) : (s.mapEntries p f).capture = s.capture := rfl
@[simp] theorem State.mapEntries_staging (s : State) (p : Entry → Bool) (f : Entry → Entry) : (s.mapEntries p f).staging = s.staging := rfl
@[simp] theorem State.mapEntries_stream (s : State) (p : Entry → Bool) (f : Entry → Entry) : (s.mapEntries p f).stream = s.stream := rfl
@[simp] theorem State.mapEntries_log (s : State) (p : Entry → Bool) (f : Entry → Entry) : (s.mapEntries p f).log = s.log := rfl
@[simp] theorem State.mapEntries_rollback (s : State) (p : Entry → Bool) (f : Entry → Entry) : (s.mapEntries p f).rollback = s.rollback := rfl
@[simp] theorem State.mapEntries_scan (s : State) (p : Entry → Bool) (f : Entry → Entry) : (s.mapEntries p f).scan = s.scan := rfl
@[simp] theorem State.mapEntries_maintOffer (s : State) (p : Entry → Bool) (f : Entry → Entry) : (s.mapEntries p f).maintOffer = s.maintOffer := rfl
@[simp] theorem State.mapEntries_port (s : State) (p : Entry → Bool) (f : Entry → Entry) : (s.mapEntries p f).port = s.port := rfl
@[simp] theorem State.mapEntries_events (s : State) (p : Entry → Bool) (f : Entry → Entry) : (s.mapEntries p f).events = s.events := rfl
@[simp] theorem State.mapEntries_link (s : State) (p : Entry → Bool) (f : Entry → Entry) : (s.mapEntries p f).link = s.link := rfl

/-! ### updateEntry -/

@[simp] theorem State.updateEntry_pending (s : State) (r : Requester) (t : Tag) (f : Entry → Entry) : (s.updateEntry r t f).pending = s.pending := rfl
@[simp] theorem State.updateEntry_rstLow (s : State) (r : Requester) (t : Tag) (f : Entry → Entry) : (s.updateEntry r t f).rstLow = s.rstLow := rfl
@[simp] theorem State.updateEntry_host (s : State) (r : Requester) (t : Tag) (f : Entry → Entry) : (s.updateEntry r t f).host = s.host := rfl
@[simp] theorem State.updateEntry_regions (s : State) (r : Requester) (t : Tag) (f : Entry → Entry) : (s.updateEntry r t f).regions = s.regions := rfl
@[simp] theorem State.updateEntry_capture (s : State) (r : Requester) (t : Tag) (f : Entry → Entry) : (s.updateEntry r t f).capture = s.capture := rfl
@[simp] theorem State.updateEntry_staging (s : State) (r : Requester) (t : Tag) (f : Entry → Entry) : (s.updateEntry r t f).staging = s.staging := rfl
@[simp] theorem State.updateEntry_stream (s : State) (r : Requester) (t : Tag) (f : Entry → Entry) : (s.updateEntry r t f).stream = s.stream := rfl
@[simp] theorem State.updateEntry_log (s : State) (r : Requester) (t : Tag) (f : Entry → Entry) : (s.updateEntry r t f).log = s.log := rfl
@[simp] theorem State.updateEntry_rollback (s : State) (r : Requester) (t : Tag) (f : Entry → Entry) : (s.updateEntry r t f).rollback = s.rollback := rfl
@[simp] theorem State.updateEntry_scan (s : State) (r : Requester) (t : Tag) (f : Entry → Entry) : (s.updateEntry r t f).scan = s.scan := rfl
@[simp] theorem State.updateEntry_maintOffer (s : State) (r : Requester) (t : Tag) (f : Entry → Entry) : (s.updateEntry r t f).maintOffer = s.maintOffer := rfl
@[simp] theorem State.updateEntry_port (s : State) (r : Requester) (t : Tag) (f : Entry → Entry) : (s.updateEntry r t f).port = s.port := rfl
@[simp] theorem State.updateEntry_events (s : State) (r : Requester) (t : Tag) (f : Entry → Entry) : (s.updateEntry r t f).events = s.events := rfl
@[simp] theorem State.updateEntry_link (s : State) (r : Requester) (t : Tag) (f : Entry → Entry) : (s.updateEntry r t f).link = s.link := rfl

/-! ### releaseHolds -/

@[simp] theorem State.releaseHolds_pending (s : State) (c : HoldCause) : (s.releaseHolds c).pending = s.pending := rfl
@[simp] theorem State.releaseHolds_rstLow (s : State) (c : HoldCause) : (s.releaseHolds c).rstLow = s.rstLow := rfl
@[simp] theorem State.releaseHolds_host (s : State) (c : HoldCause) : (s.releaseHolds c).host = s.host := rfl
@[simp] theorem State.releaseHolds_regions (s : State) (c : HoldCause) : (s.releaseHolds c).regions = s.regions := rfl
@[simp] theorem State.releaseHolds_capture (s : State) (c : HoldCause) : (s.releaseHolds c).capture = s.capture := rfl
@[simp] theorem State.releaseHolds_staging (s : State) (c : HoldCause) : (s.releaseHolds c).staging = s.staging := rfl
@[simp] theorem State.releaseHolds_stream (s : State) (c : HoldCause) : (s.releaseHolds c).stream = s.stream := rfl
@[simp] theorem State.releaseHolds_log (s : State) (c : HoldCause) : (s.releaseHolds c).log = s.log := rfl
@[simp] theorem State.releaseHolds_rollback (s : State) (c : HoldCause) : (s.releaseHolds c).rollback = s.rollback := rfl
@[simp] theorem State.releaseHolds_scan (s : State) (c : HoldCause) : (s.releaseHolds c).scan = s.scan := rfl
@[simp] theorem State.releaseHolds_maintOffer (s : State) (c : HoldCause) : (s.releaseHolds c).maintOffer = s.maintOffer := rfl
@[simp] theorem State.releaseHolds_port (s : State) (c : HoldCause) : (s.releaseHolds c).port = s.port := rfl
@[simp] theorem State.releaseHolds_events (s : State) (c : HoldCause) : (s.releaseHolds c).events = s.events := rfl
@[simp] theorem State.releaseHolds_link (s : State) (c : HoldCause) : (s.releaseHolds c).link = s.link := rfl

/-! ### restartTimer -/

@[simp] theorem State.restartTimer_pending (s : State) : (s.restartTimer).pending = s.pending := rfl
@[simp] theorem State.restartTimer_rstLow (s : State) : (s.restartTimer).rstLow = s.rstLow := rfl
@[simp] theorem State.restartTimer_host (s : State) : (s.restartTimer).host = s.host := rfl
@[simp] theorem State.restartTimer_window (s : State) : (s.restartTimer).window = s.window := rfl
@[simp] theorem State.restartTimer_regions (s : State) : (s.restartTimer).regions = s.regions := rfl
@[simp] theorem State.restartTimer_capture (s : State) : (s.restartTimer).capture = s.capture := rfl
@[simp] theorem State.restartTimer_staging (s : State) : (s.restartTimer).staging = s.staging := rfl
@[simp] theorem State.restartTimer_stream (s : State) : (s.restartTimer).stream = s.stream := rfl
@[simp] theorem State.restartTimer_rollback (s : State) : (s.restartTimer).rollback = s.rollback := rfl
@[simp] theorem State.restartTimer_scan (s : State) : (s.restartTimer).scan = s.scan := rfl
@[simp] theorem State.restartTimer_maintOffer (s : State) : (s.restartTimer).maintOffer = s.maintOffer := rfl
@[simp] theorem State.restartTimer_port (s : State) : (s.restartTimer).port = s.port := rfl
@[simp] theorem State.restartTimer_events (s : State) : (s.restartTimer).events = s.events := rfl
@[simp] theorem State.restartTimer_link (s : State) : (s.restartTimer).link = s.link := rfl

/-! ### freeSlot -/

@[simp] theorem State.freeSlot_pending (s : State) : (s.freeSlot).pending = s.pending := rfl
@[simp] theorem State.freeSlot_rstLow (s : State) : (s.freeSlot).rstLow = s.rstLow := rfl
@[simp] theorem State.freeSlot_host (s : State) : (s.freeSlot).host = s.host := rfl
@[simp] theorem State.freeSlot_window (s : State) : (s.freeSlot).window = s.window := rfl
@[simp] theorem State.freeSlot_regions (s : State) : (s.freeSlot).regions = s.regions := rfl
@[simp] theorem State.freeSlot_capture (s : State) : (s.freeSlot).capture = s.capture := rfl
@[simp] theorem State.freeSlot_staging (s : State) : (s.freeSlot).staging = s.staging := rfl
@[simp] theorem State.freeSlot_stream (s : State) : (s.freeSlot).stream = s.stream := rfl
@[simp] theorem State.freeSlot_log (s : State) : (s.freeSlot).log = s.log := rfl
@[simp] theorem State.freeSlot_rollback (s : State) : (s.freeSlot).rollback = s.rollback := rfl
@[simp] theorem State.freeSlot_scan (s : State) : (s.freeSlot).scan = s.scan := rfl
@[simp] theorem State.freeSlot_maintOffer (s : State) : (s.freeSlot).maintOffer = s.maintOffer := rfl
@[simp] theorem State.freeSlot_events (s : State) : (s.freeSlot).events = s.events := rfl
@[simp] theorem State.freeSlot_link (s : State) : (s.freeSlot).link = s.link := rfl

/-! ### offerMaint -/

@[simp] theorem State.offerMaint_pending (s : State) (m : MaintStep) (q : MemRequest) : (s.offerMaint m q).pending = s.pending := rfl
@[simp] theorem State.offerMaint_rstLow (s : State) (m : MaintStep) (q : MemRequest) : (s.offerMaint m q).rstLow = s.rstLow := rfl
@[simp] theorem State.offerMaint_host (s : State) (m : MaintStep) (q : MemRequest) : (s.offerMaint m q).host = s.host := rfl
@[simp] theorem State.offerMaint_window (s : State) (m : MaintStep) (q : MemRequest) : (s.offerMaint m q).window = s.window := rfl
@[simp] theorem State.offerMaint_regions (s : State) (m : MaintStep) (q : MemRequest) : (s.offerMaint m q).regions = s.regions := rfl
@[simp] theorem State.offerMaint_capture (s : State) (m : MaintStep) (q : MemRequest) : (s.offerMaint m q).capture = s.capture := rfl
@[simp] theorem State.offerMaint_staging (s : State) (m : MaintStep) (q : MemRequest) : (s.offerMaint m q).staging = s.staging := rfl
@[simp] theorem State.offerMaint_stream (s : State) (m : MaintStep) (q : MemRequest) : (s.offerMaint m q).stream = s.stream := rfl
@[simp] theorem State.offerMaint_log (s : State) (m : MaintStep) (q : MemRequest) : (s.offerMaint m q).log = s.log := rfl
@[simp] theorem State.offerMaint_rollback (s : State) (m : MaintStep) (q : MemRequest) : (s.offerMaint m q).rollback = s.rollback := rfl
@[simp] theorem State.offerMaint_scan (s : State) (m : MaintStep) (q : MemRequest) : (s.offerMaint m q).scan = s.scan := rfl
@[simp] theorem State.offerMaint_port (s : State) (m : MaintStep) (q : MemRequest) : (s.offerMaint m q).port = s.port := rfl
@[simp] theorem State.offerMaint_events (s : State) (m : MaintStep) (q : MemRequest) : (s.offerMaint m q).events = s.events := rfl
@[simp] theorem State.offerMaint_link (s : State) (m : MaintStep) (q : MemRequest) : (s.offerMaint m q).link = s.link := rfl

/-! ### respond -/

@[simp] theorem State.respond_pending (s : State) (x : Status) (b : List Byte) : (s.respond x b).pending = s.pending := rfl
@[simp] theorem State.respond_rstLow (s : State) (x : Status) (b : List Byte) : (s.respond x b).rstLow = s.rstLow := rfl
@[simp] theorem State.respond_host (s : State) (x : Status) (b : List Byte) : (s.respond x b).host = s.host := rfl
@[simp] theorem State.respond_window (s : State) (x : Status) (b : List Byte) : (s.respond x b).window = s.window := rfl
@[simp] theorem State.respond_regions (s : State) (x : Status) (b : List Byte) : (s.respond x b).regions = s.regions := rfl
@[simp] theorem State.respond_capture (s : State) (x : Status) (b : List Byte) : (s.respond x b).capture = s.capture := rfl
@[simp] theorem State.respond_staging (s : State) (x : Status) (b : List Byte) : (s.respond x b).staging = s.staging := rfl
@[simp] theorem State.respond_stream (s : State) (x : Status) (b : List Byte) : (s.respond x b).stream = s.stream := rfl
@[simp] theorem State.respond_log (s : State) (x : Status) (b : List Byte) : (s.respond x b).log = s.log := rfl
@[simp] theorem State.respond_rollback (s : State) (x : Status) (b : List Byte) : (s.respond x b).rollback = s.rollback := rfl
@[simp] theorem State.respond_scan (s : State) (x : Status) (b : List Byte) : (s.respond x b).scan = s.scan := rfl
@[simp] theorem State.respond_maintOffer (s : State) (x : Status) (b : List Byte) : (s.respond x b).maintOffer = s.maintOffer := rfl
@[simp] theorem State.respond_port (s : State) (x : Status) (b : List Byte) : (s.respond x b).port = s.port := rfl
@[simp] theorem State.respond_events (s : State) (x : Status) (b : List Byte) : (s.respond x b).events = s.events := rfl

/-! ### refuse -/

@[simp] theorem State.refuse_pending (s : State) (x : CommandRefusal) : (s.refuse x).pending = s.pending := rfl
@[simp] theorem State.refuse_rstLow (s : State) (x : CommandRefusal) : (s.refuse x).rstLow = s.rstLow := rfl
@[simp] theorem State.refuse_host (s : State) (x : CommandRefusal) : (s.refuse x).host = s.host := rfl
@[simp] theorem State.refuse_window (s : State) (x : CommandRefusal) : (s.refuse x).window = s.window := rfl
@[simp] theorem State.refuse_regions (s : State) (x : CommandRefusal) : (s.refuse x).regions = s.regions := rfl
@[simp] theorem State.refuse_capture (s : State) (x : CommandRefusal) : (s.refuse x).capture = s.capture := rfl
@[simp] theorem State.refuse_staging (s : State) (x : CommandRefusal) : (s.refuse x).staging = s.staging := rfl
@[simp] theorem State.refuse_stream (s : State) (x : CommandRefusal) : (s.refuse x).stream = s.stream := rfl
@[simp] theorem State.refuse_log (s : State) (x : CommandRefusal) : (s.refuse x).log = s.log := rfl
@[simp] theorem State.refuse_rollback (s : State) (x : CommandRefusal) : (s.refuse x).rollback = s.rollback := rfl
@[simp] theorem State.refuse_scan (s : State) (x : CommandRefusal) : (s.refuse x).scan = s.scan := rfl
@[simp] theorem State.refuse_maintOffer (s : State) (x : CommandRefusal) : (s.refuse x).maintOffer = s.maintOffer := rfl
@[simp] theorem State.refuse_port (s : State) (x : CommandRefusal) : (s.refuse x).port = s.port := rfl
@[simp] theorem State.refuse_events (s : State) (x : CommandRefusal) : (s.refuse x).events = s.events := rfl

/-! ### compareLowSpace -/

@[simp] theorem State.compareLowSpace_pending (s : State) : (s.compareLowSpace).pending = s.pending := by unfold State.compareLowSpace; split_ifs <;> rfl
@[simp] theorem State.compareLowSpace_rstLow (s : State) : (s.compareLowSpace).rstLow = s.rstLow := by unfold State.compareLowSpace; split_ifs <;> rfl
@[simp] theorem State.compareLowSpace_host (s : State) : (s.compareLowSpace).host = s.host := by unfold State.compareLowSpace; split_ifs <;> rfl
@[simp] theorem State.compareLowSpace_window (s : State) : (s.compareLowSpace).window = s.window := by unfold State.compareLowSpace; split_ifs <;> rfl
@[simp] theorem State.compareLowSpace_regions (s : State) : (s.compareLowSpace).regions = s.regions := by unfold State.compareLowSpace; split_ifs <;> rfl
@[simp] theorem State.compareLowSpace_capture (s : State) : (s.compareLowSpace).capture = s.capture := by unfold State.compareLowSpace; split_ifs <;> rfl
@[simp] theorem State.compareLowSpace_staging (s : State) : (s.compareLowSpace).staging = s.staging := by unfold State.compareLowSpace; split_ifs <;> rfl
@[simp] theorem State.compareLowSpace_stream (s : State) : (s.compareLowSpace).stream = s.stream := by unfold State.compareLowSpace; split_ifs <;> rfl
@[simp] theorem State.compareLowSpace_rollback (s : State) : (s.compareLowSpace).rollback = s.rollback := by unfold State.compareLowSpace; split_ifs <;> rfl
@[simp] theorem State.compareLowSpace_scan (s : State) : (s.compareLowSpace).scan = s.scan := by unfold State.compareLowSpace; split_ifs <;> rfl
@[simp] theorem State.compareLowSpace_maintOffer (s : State) : (s.compareLowSpace).maintOffer = s.maintOffer := by unfold State.compareLowSpace; split_ifs <;> rfl
@[simp] theorem State.compareLowSpace_port (s : State) : (s.compareLowSpace).port = s.port := by unfold State.compareLowSpace; split_ifs <;> rfl
@[simp] theorem State.compareLowSpace_link (s : State) : (s.compareLowSpace).link = s.link := by unfold State.compareLowSpace; split_ifs <;> rfl

/-! ### checkHostOffer -/

@[simp] theorem State.checkHostOffer_pending (s : State) : (s.checkHostOffer).pending = s.pending := by unfold State.checkHostOffer; split_ifs <;> rfl
@[simp] theorem State.checkHostOffer_rstLow (s : State) : (s.checkHostOffer).rstLow = s.rstLow := by unfold State.checkHostOffer; split_ifs <;> rfl
@[simp] theorem State.checkHostOffer_host (s : State) : (s.checkHostOffer).host = s.host := by unfold State.checkHostOffer; split_ifs <;> rfl
@[simp] theorem State.checkHostOffer_window (s : State) : (s.checkHostOffer).window = s.window := by unfold State.checkHostOffer; split_ifs <;> rfl
@[simp] theorem State.checkHostOffer_regions (s : State) : (s.checkHostOffer).regions = s.regions := by unfold State.checkHostOffer; split_ifs <;> rfl
@[simp] theorem State.checkHostOffer_capture (s : State) : (s.checkHostOffer).capture = s.capture := by unfold State.checkHostOffer; split_ifs <;> rfl
@[simp] theorem State.checkHostOffer_staging (s : State) : (s.checkHostOffer).staging = s.staging := by unfold State.checkHostOffer; split_ifs <;> rfl
@[simp] theorem State.checkHostOffer_stream (s : State) : (s.checkHostOffer).stream = s.stream := by unfold State.checkHostOffer; split_ifs <;> rfl
@[simp] theorem State.checkHostOffer_log (s : State) : (s.checkHostOffer).log = s.log := by unfold State.checkHostOffer; split_ifs <;> rfl
@[simp] theorem State.checkHostOffer_rollback (s : State) : (s.checkHostOffer).rollback = s.rollback := by unfold State.checkHostOffer; split_ifs <;> rfl
@[simp] theorem State.checkHostOffer_scan (s : State) : (s.checkHostOffer).scan = s.scan := by unfold State.checkHostOffer; split_ifs <;> rfl
@[simp] theorem State.checkHostOffer_maintOffer (s : State) : (s.checkHostOffer).maintOffer = s.maintOffer := by unfold State.checkHostOffer; split_ifs <;> rfl
@[simp] theorem State.checkHostOffer_events (s : State) : (s.checkHostOffer).events = s.events := by unfold State.checkHostOffer; split_ifs <;> rfl
@[simp] theorem State.checkHostOffer_link (s : State) : (s.checkHostOffer).link = s.link := by unfold State.checkHostOffer; split_ifs <;> rfl

/-! ### offerResponse -/

@[simp] theorem State.offerResponse_pending (s : State) : (s.offerResponse).pending = s.pending := by unfold State.offerResponse; split <;> rfl
@[simp] theorem State.offerResponse_rstLow (s : State) : (s.offerResponse).rstLow = s.rstLow := by unfold State.offerResponse; split <;> rfl
@[simp] theorem State.offerResponse_window (s : State) : (s.offerResponse).window = s.window := by unfold State.offerResponse; split <;> rfl
@[simp] theorem State.offerResponse_regions (s : State) : (s.offerResponse).regions = s.regions := by unfold State.offerResponse; split <;> rfl
@[simp] theorem State.offerResponse_capture (s : State) : (s.offerResponse).capture = s.capture := by unfold State.offerResponse; split <;> rfl
@[simp] theorem State.offerResponse_staging (s : State) : (s.offerResponse).staging = s.staging := by unfold State.offerResponse; split <;> rfl
@[simp] theorem State.offerResponse_stream (s : State) : (s.offerResponse).stream = s.stream := by unfold State.offerResponse; split <;> rfl
@[simp] theorem State.offerResponse_log (s : State) : (s.offerResponse).log = s.log := by unfold State.offerResponse; split <;> rfl
@[simp] theorem State.offerResponse_rollback (s : State) : (s.offerResponse).rollback = s.rollback := by unfold State.offerResponse; split <;> rfl
@[simp] theorem State.offerResponse_scan (s : State) : (s.offerResponse).scan = s.scan := by unfold State.offerResponse; split <;> rfl
@[simp] theorem State.offerResponse_maintOffer (s : State) : (s.offerResponse).maintOffer = s.maintOffer := by unfold State.offerResponse; split <;> rfl
@[simp] theorem State.offerResponse_port (s : State) : (s.offerResponse).port = s.port := by unfold State.offerResponse; split <;> rfl
@[simp] theorem State.offerResponse_events (s : State) : (s.offerResponse).events = s.events := by unfold State.offerResponse; split <;> rfl
@[simp] theorem State.offerResponse_link (s : State) : (s.offerResponse).link = s.link := by unfold State.offerResponse; split <;> rfl

/-! ### refreshPorts -/

@[simp] theorem State.refreshPorts_pending (s : State) : (s.refreshPorts).pending = s.pending := by simp [State.refreshPorts]
@[simp] theorem State.refreshPorts_rstLow (s : State) : (s.refreshPorts).rstLow = s.rstLow := by simp [State.refreshPorts]
@[simp] theorem State.refreshPorts_window (s : State) : (s.refreshPorts).window = s.window := by simp [State.refreshPorts]
@[simp] theorem State.refreshPorts_regions (s : State) : (s.refreshPorts).regions = s.regions := by simp [State.refreshPorts]
@[simp] theorem State.refreshPorts_capture (s : State) : (s.refreshPorts).capture = s.capture := by simp [State.refreshPorts]
@[simp] theorem State.refreshPorts_staging (s : State) : (s.refreshPorts).staging = s.staging := by simp [State.refreshPorts]
@[simp] theorem State.refreshPorts_stream (s : State) : (s.refreshPorts).stream = s.stream := by simp [State.refreshPorts]
@[simp] theorem State.refreshPorts_log (s : State) : (s.refreshPorts).log = s.log := by simp [State.refreshPorts]
@[simp] theorem State.refreshPorts_rollback (s : State) : (s.refreshPorts).rollback = s.rollback := by simp [State.refreshPorts]
@[simp] theorem State.refreshPorts_scan (s : State) : (s.refreshPorts).scan = s.scan := by simp [State.refreshPorts]
@[simp] theorem State.refreshPorts_maintOffer (s : State) : (s.refreshPorts).maintOffer = s.maintOffer := by simp [State.refreshPorts]
@[simp] theorem State.refreshPorts_events (s : State) : (s.refreshPorts).events = s.events := by simp [State.refreshPorts]
@[simp] theorem State.refreshPorts_link (s : State) : (s.refreshPorts).link = s.link := by simp [State.refreshPorts]

/-! ### abandonCaptures -/

@[simp] theorem State.abandonCaptures_pending (s : State) (p : Entry → Bool) : (s.abandonCaptures p).pending = s.pending := by simp [State.abandonCaptures]
@[simp] theorem State.abandonCaptures_rstLow (s : State) (p : Entry → Bool) : (s.abandonCaptures p).rstLow = s.rstLow := by simp [State.abandonCaptures]
@[simp] theorem State.abandonCaptures_host (s : State) (p : Entry → Bool) : (s.abandonCaptures p).host = s.host := by simp [State.abandonCaptures]
@[simp] theorem State.abandonCaptures_regions (s : State) (p : Entry → Bool) : (s.abandonCaptures p).regions = s.regions := by simp [State.abandonCaptures]
@[simp] theorem State.abandonCaptures_stream (s : State) (p : Entry → Bool) : (s.abandonCaptures p).stream = s.stream := by simp [State.abandonCaptures]
@[simp] theorem State.abandonCaptures_rollback (s : State) (p : Entry → Bool) : (s.abandonCaptures p).rollback = s.rollback := by simp [State.abandonCaptures]
@[simp] theorem State.abandonCaptures_scan (s : State) (p : Entry → Bool) : (s.abandonCaptures p).scan = s.scan := by simp [State.abandonCaptures]
@[simp] theorem State.abandonCaptures_maintOffer (s : State) (p : Entry → Bool) : (s.abandonCaptures p).maintOffer = s.maintOffer := by simp [State.abandonCaptures]
@[simp] theorem State.abandonCaptures_port (s : State) (p : Entry → Bool) : (s.abandonCaptures p).port = s.port := by simp [State.abandonCaptures]
@[simp] theorem State.abandonCaptures_events (s : State) (p : Entry → Bool) : (s.abandonCaptures p).events = s.events := by simp [State.abandonCaptures]
@[simp] theorem State.abandonCaptures_link (s : State) (p : Entry → Bool) : (s.abandonCaptures p).link = s.link := by simp [State.abandonCaptures]

/-! ### refuseEntries -/

theorem State.postRefusals_eq (s : State) (reason : RefusalReason) (l : List Entry) :
    s.postRefusals reason l = s.withEvents (s.postRefusals reason l).events := by
  unfold State.postRefusals
  induction l generalizing s with
  | nil => rfl
  | cons e l ih => rw [List.foldl_cons, ih]; rfl

@[simp] theorem State.postRefusals_pending (s : State) (r : RefusalReason) (l : List Entry) : (s.postRefusals r l).pending = s.pending := by rw [State.postRefusals_eq]; rfl
@[simp] theorem State.postRefusals_rstLow (s : State) (r : RefusalReason) (l : List Entry) : (s.postRefusals r l).rstLow = s.rstLow := by rw [State.postRefusals_eq]; rfl
@[simp] theorem State.postRefusals_host (s : State) (r : RefusalReason) (l : List Entry) : (s.postRefusals r l).host = s.host := by rw [State.postRefusals_eq]; rfl
@[simp] theorem State.postRefusals_window (s : State) (r : RefusalReason) (l : List Entry) : (s.postRefusals r l).window = s.window := by rw [State.postRefusals_eq]; rfl
@[simp] theorem State.postRefusals_regions (s : State) (r : RefusalReason) (l : List Entry) : (s.postRefusals r l).regions = s.regions := by rw [State.postRefusals_eq]; rfl
@[simp] theorem State.postRefusals_capture (s : State) (r : RefusalReason) (l : List Entry) : (s.postRefusals r l).capture = s.capture := by rw [State.postRefusals_eq]; rfl
@[simp] theorem State.postRefusals_staging (s : State) (r : RefusalReason) (l : List Entry) : (s.postRefusals r l).staging = s.staging := by rw [State.postRefusals_eq]; rfl
@[simp] theorem State.postRefusals_stream (s : State) (r : RefusalReason) (l : List Entry) : (s.postRefusals r l).stream = s.stream := by rw [State.postRefusals_eq]; rfl
@[simp] theorem State.postRefusals_log (s : State) (r : RefusalReason) (l : List Entry) : (s.postRefusals r l).log = s.log := by rw [State.postRefusals_eq]; rfl
@[simp] theorem State.postRefusals_rollback (s : State) (r : RefusalReason) (l : List Entry) : (s.postRefusals r l).rollback = s.rollback := by rw [State.postRefusals_eq]; rfl
@[simp] theorem State.postRefusals_scan (s : State) (r : RefusalReason) (l : List Entry) : (s.postRefusals r l).scan = s.scan := by rw [State.postRefusals_eq]; rfl
@[simp] theorem State.postRefusals_maintOffer (s : State) (r : RefusalReason) (l : List Entry) : (s.postRefusals r l).maintOffer = s.maintOffer := by rw [State.postRefusals_eq]; rfl
@[simp] theorem State.postRefusals_port (s : State) (r : RefusalReason) (l : List Entry) : (s.postRefusals r l).port = s.port := by rw [State.postRefusals_eq]; rfl
@[simp] theorem State.postRefusals_link (s : State) (r : RefusalReason) (l : List Entry) : (s.postRefusals r l).link = s.link := by rw [State.postRefusals_eq]; rfl

@[simp] theorem State.refuseEntries_pending (s : State) (p : Entry → Bool) (r : RefusalReason) : (s.refuseEntries p r).pending = s.pending := by simp [State.refuseEntries]
@[simp] theorem State.refuseEntries_rstLow (s : State) (p : Entry → Bool) (r : RefusalReason) : (s.refuseEntries p r).rstLow = s.rstLow := by simp [State.refuseEntries]
@[simp] theorem State.refuseEntries_host (s : State) (p : Entry → Bool) (r : RefusalReason) : (s.refuseEntries p r).host = s.host := by simp [State.refuseEntries]
@[simp] theorem State.refuseEntries_regions (s : State) (p : Entry → Bool) (r : RefusalReason) : (s.refuseEntries p r).regions = s.regions := by simp [State.refuseEntries]
@[simp] theorem State.refuseEntries_stream (s : State) (p : Entry → Bool) (r : RefusalReason) : (s.refuseEntries p r).stream = s.stream := by simp [State.refuseEntries]
@[simp] theorem State.refuseEntries_rollback (s : State) (p : Entry → Bool) (r : RefusalReason) : (s.refuseEntries p r).rollback = s.rollback := by simp [State.refuseEntries]
@[simp] theorem State.refuseEntries_scan (s : State) (p : Entry → Bool) (r : RefusalReason) : (s.refuseEntries p r).scan = s.scan := by simp [State.refuseEntries]
@[simp] theorem State.refuseEntries_maintOffer (s : State) (p : Entry → Bool) (r : RefusalReason) : (s.refuseEntries p r).maintOffer = s.maintOffer := by simp [State.refuseEntries]
@[simp] theorem State.refuseEntries_port (s : State) (p : Entry → Bool) (r : RefusalReason) : (s.refuseEntries p r).port = s.port := by simp [State.refuseEntries]
@[simp] theorem State.refuseEntries_link (s : State) (p : Entry → Bool) (r : RefusalReason) : (s.refuseEntries p r).link = s.link := by simp [State.refuseEntries]

/-! ### placeHeader -/

@[simp] theorem State.placeHeader_pending (s : State) (p : HeaderPurpose) : (s.placeHeader p).pending = s.pending := rfl
@[simp] theorem State.placeHeader_rstLow (s : State) (p : HeaderPurpose) : (s.placeHeader p).rstLow = s.rstLow := rfl
@[simp] theorem State.placeHeader_host (s : State) (p : HeaderPurpose) : (s.placeHeader p).host = s.host := rfl
@[simp] theorem State.placeHeader_window (s : State) (p : HeaderPurpose) : (s.placeHeader p).window = s.window := rfl
@[simp] theorem State.placeHeader_regions (s : State) (p : HeaderPurpose) : (s.placeHeader p).regions = s.regions := rfl
@[simp] theorem State.placeHeader_capture (s : State) (p : HeaderPurpose) : (s.placeHeader p).capture = s.capture := rfl
@[simp] theorem State.placeHeader_staging (s : State) (p : HeaderPurpose) : (s.placeHeader p).staging = s.staging := rfl
@[simp] theorem State.placeHeader_rollback (s : State) (p : HeaderPurpose) : (s.placeHeader p).rollback = s.rollback := rfl
@[simp] theorem State.placeHeader_scan (s : State) (p : HeaderPurpose) : (s.placeHeader p).scan = s.scan := rfl
@[simp] theorem State.placeHeader_maintOffer (s : State) (p : HeaderPurpose) : (s.placeHeader p).maintOffer = s.maintOffer := rfl
@[simp] theorem State.placeHeader_port (s : State) (p : HeaderPurpose) : (s.placeHeader p).port = s.port := rfl
@[simp] theorem State.placeHeader_events (s : State) (p : HeaderPurpose) : (s.placeHeader p).events = s.events := rfl
@[simp] theorem State.placeHeader_link (s : State) (p : HeaderPurpose) : (s.placeHeader p).link = s.link := rfl

/-! ### askHeader -/

@[simp] theorem State.askHeader_pending (s : State) (p : HeaderPurpose) : (s.askHeader p).pending = s.pending := by unfold State.askHeader; split_ifs <;> rfl
@[simp] theorem State.askHeader_rstLow (s : State) (p : HeaderPurpose) : (s.askHeader p).rstLow = s.rstLow := by unfold State.askHeader; split_ifs <;> rfl
@[simp] theorem State.askHeader_host (s : State) (p : HeaderPurpose) : (s.askHeader p).host = s.host := by unfold State.askHeader; split_ifs <;> rfl
@[simp] theorem State.askHeader_window (s : State) (p : HeaderPurpose) : (s.askHeader p).window = s.window := by unfold State.askHeader; split_ifs <;> rfl
@[simp] theorem State.askHeader_regions (s : State) (p : HeaderPurpose) : (s.askHeader p).regions = s.regions := by unfold State.askHeader; split_ifs <;> rfl
@[simp] theorem State.askHeader_capture (s : State) (p : HeaderPurpose) : (s.askHeader p).capture = s.capture := by unfold State.askHeader; split_ifs <;> rfl
@[simp] theorem State.askHeader_staging (s : State) (p : HeaderPurpose) : (s.askHeader p).staging = s.staging := by unfold State.askHeader; split_ifs <;> rfl
@[simp] theorem State.askHeader_rollback (s : State) (p : HeaderPurpose) : (s.askHeader p).rollback = s.rollback := by unfold State.askHeader; split_ifs <;> rfl
@[simp] theorem State.askHeader_scan (s : State) (p : HeaderPurpose) : (s.askHeader p).scan = s.scan := by unfold State.askHeader; split_ifs <;> rfl
@[simp] theorem State.askHeader_maintOffer (s : State) (p : HeaderPurpose) : (s.askHeader p).maintOffer = s.maintOffer := by unfold State.askHeader; split_ifs <;> rfl
@[simp] theorem State.askHeader_port (s : State) (p : HeaderPurpose) : (s.askHeader p).port = s.port := by unfold State.askHeader; split_ifs <;> rfl
@[simp] theorem State.askHeader_events (s : State) (p : HeaderPurpose) : (s.askHeader p).events = s.events := by unfold State.askHeader; split_ifs <;> rfl
@[simp] theorem State.askHeader_link (s : State) (p : HeaderPurpose) : (s.askHeader p).link = s.link := by unfold State.askHeader; split_ifs <;> rfl

/-! ### dropMarks -/

@[simp] theorem State.dropMarks_pending (s : State) (n : Nat) : (s.dropMarks n).pending = s.pending := rfl
@[simp] theorem State.dropMarks_rstLow (s : State) (n : Nat) : (s.dropMarks n).rstLow = s.rstLow := rfl
@[simp] theorem State.dropMarks_host (s : State) (n : Nat) : (s.dropMarks n).host = s.host := rfl
@[simp] theorem State.dropMarks_window (s : State) (n : Nat) : (s.dropMarks n).window = s.window := rfl
@[simp] theorem State.dropMarks_regions (s : State) (n : Nat) : (s.dropMarks n).regions = s.regions := rfl
@[simp] theorem State.dropMarks_capture (s : State) (n : Nat) : (s.dropMarks n).capture = s.capture := rfl
@[simp] theorem State.dropMarks_staging (s : State) (n : Nat) : (s.dropMarks n).staging = s.staging := rfl
@[simp] theorem State.dropMarks_stream (s : State) (n : Nat) : (s.dropMarks n).stream = s.stream := rfl
@[simp] theorem State.dropMarks_rollback (s : State) (n : Nat) : (s.dropMarks n).rollback = s.rollback := rfl
@[simp] theorem State.dropMarks_scan (s : State) (n : Nat) : (s.dropMarks n).scan = s.scan := rfl
@[simp] theorem State.dropMarks_maintOffer (s : State) (n : Nat) : (s.dropMarks n).maintOffer = s.maintOffer := rfl
@[simp] theorem State.dropMarks_port (s : State) (n : Nat) : (s.dropMarks n).port = s.port := rfl
@[simp] theorem State.dropMarks_events (s : State) (n : Nat) : (s.dropMarks n).events = s.events := rfl
@[simp] theorem State.dropMarks_link (s : State) (n : Nat) : (s.dropMarks n).link = s.link := rfl

/-! ### clearCaptureSet -/

@[simp] theorem State.clearCaptureSet_pending (s : State) : (s.clearCaptureSet).pending = s.pending := rfl
@[simp] theorem State.clearCaptureSet_rstLow (s : State) : (s.clearCaptureSet).rstLow = s.rstLow := rfl
@[simp] theorem State.clearCaptureSet_host (s : State) : (s.clearCaptureSet).host = s.host := rfl
@[simp] theorem State.clearCaptureSet_window (s : State) : (s.clearCaptureSet).window = s.window := rfl
@[simp] theorem State.clearCaptureSet_regions (s : State) : (s.clearCaptureSet).regions = s.regions := rfl
@[simp] theorem State.clearCaptureSet_staging (s : State) : (s.clearCaptureSet).staging = s.staging := rfl
@[simp] theorem State.clearCaptureSet_stream (s : State) : (s.clearCaptureSet).stream = s.stream := rfl
@[simp] theorem State.clearCaptureSet_log (s : State) : (s.clearCaptureSet).log = s.log := rfl
@[simp] theorem State.clearCaptureSet_rollback (s : State) : (s.clearCaptureSet).rollback = s.rollback := rfl
@[simp] theorem State.clearCaptureSet_scan (s : State) : (s.clearCaptureSet).scan = s.scan := rfl
@[simp] theorem State.clearCaptureSet_maintOffer (s : State) : (s.clearCaptureSet).maintOffer = s.maintOffer := rfl
@[simp] theorem State.clearCaptureSet_port (s : State) : (s.clearCaptureSet).port = s.port := rfl
@[simp] theorem State.clearCaptureSet_events (s : State) : (s.clearCaptureSet).events = s.events := rfl
@[simp] theorem State.clearCaptureSet_link (s : State) : (s.clearCaptureSet).link = s.link := rfl

/-! ### appendRecord -/

@[simp] theorem State.appendRecord_pending (s : State) (r : Record) : (s.appendRecord r).pending = s.pending := rfl
@[simp] theorem State.appendRecord_rstLow (s : State) (r : Record) : (s.appendRecord r).rstLow = s.rstLow := rfl
@[simp] theorem State.appendRecord_host (s : State) (r : Record) : (s.appendRecord r).host = s.host := rfl
@[simp] theorem State.appendRecord_window (s : State) (r : Record) : (s.appendRecord r).window = s.window := rfl
@[simp] theorem State.appendRecord_regions (s : State) (r : Record) : (s.appendRecord r).regions = s.regions := rfl
@[simp] theorem State.appendRecord_capture (s : State) (r : Record) : (s.appendRecord r).capture = s.capture := rfl
@[simp] theorem State.appendRecord_staging (s : State) (r : Record) : (s.appendRecord r).staging = s.staging := rfl
@[simp] theorem State.appendRecord_rollback (s : State) (r : Record) : (s.appendRecord r).rollback = s.rollback := rfl
@[simp] theorem State.appendRecord_scan (s : State) (r : Record) : (s.appendRecord r).scan = s.scan := rfl
@[simp] theorem State.appendRecord_maintOffer (s : State) (r : Record) : (s.appendRecord r).maintOffer = s.maintOffer := rfl
@[simp] theorem State.appendRecord_port (s : State) (r : Record) : (s.appendRecord r).port = s.port := rfl
@[simp] theorem State.appendRecord_events (s : State) (r : Record) : (s.appendRecord r).events = s.events := rfl
@[simp] theorem State.appendRecord_link (s : State) (r : Record) : (s.appendRecord r).link = s.link := rfl

/-! ### appendFiller -/

@[simp] theorem State.appendFiller_pending (s : State) (f : Option Record) : (s.appendFiller f).pending = s.pending := by cases f <;> rfl
@[simp] theorem State.appendFiller_rstLow (s : State) (f : Option Record) : (s.appendFiller f).rstLow = s.rstLow := by cases f <;> rfl
@[simp] theorem State.appendFiller_host (s : State) (f : Option Record) : (s.appendFiller f).host = s.host := by cases f <;> rfl
@[simp] theorem State.appendFiller_window (s : State) (f : Option Record) : (s.appendFiller f).window = s.window := by cases f <;> rfl
@[simp] theorem State.appendFiller_regions (s : State) (f : Option Record) : (s.appendFiller f).regions = s.regions := by cases f <;> rfl
@[simp] theorem State.appendFiller_capture (s : State) (f : Option Record) : (s.appendFiller f).capture = s.capture := by cases f <;> rfl
@[simp] theorem State.appendFiller_rollback (s : State) (f : Option Record) : (s.appendFiller f).rollback = s.rollback := by cases f <;> rfl
@[simp] theorem State.appendFiller_scan (s : State) (f : Option Record) : (s.appendFiller f).scan = s.scan := by cases f <;> rfl
@[simp] theorem State.appendFiller_maintOffer (s : State) (f : Option Record) : (s.appendFiller f).maintOffer = s.maintOffer := by cases f <;> rfl
@[simp] theorem State.appendFiller_port (s : State) (f : Option Record) : (s.appendFiller f).port = s.port := by cases f <;> rfl
@[simp] theorem State.appendFiller_events (s : State) (f : Option Record) : (s.appendFiller f).events = s.events := by cases f <;> rfl
@[simp] theorem State.appendFiller_link (s : State) (f : Option Record) : (s.appendFiller f).link = s.link := by cases f <;> rfl

/-! ### postPoison -/

@[simp] theorem State.postPoison_pending (s : State) (h : RecordHeader) : (s.postPoison h).pending = s.pending := by unfold State.postPoison; split_ifs <;> rfl
@[simp] theorem State.postPoison_rstLow (s : State) (h : RecordHeader) : (s.postPoison h).rstLow = s.rstLow := by unfold State.postPoison; split_ifs <;> rfl
@[simp] theorem State.postPoison_host (s : State) (h : RecordHeader) : (s.postPoison h).host = s.host := by unfold State.postPoison; split_ifs <;> rfl
@[simp] theorem State.postPoison_window (s : State) (h : RecordHeader) : (s.postPoison h).window = s.window := by unfold State.postPoison; split_ifs <;> rfl
@[simp] theorem State.postPoison_regions (s : State) (h : RecordHeader) : (s.postPoison h).regions = s.regions := by unfold State.postPoison; split_ifs <;> rfl
@[simp] theorem State.postPoison_capture (s : State) (h : RecordHeader) : (s.postPoison h).capture = s.capture := by unfold State.postPoison; split_ifs <;> rfl
@[simp] theorem State.postPoison_staging (s : State) (h : RecordHeader) : (s.postPoison h).staging = s.staging := by unfold State.postPoison; split_ifs <;> rfl
@[simp] theorem State.postPoison_stream (s : State) (h : RecordHeader) : (s.postPoison h).stream = s.stream := by unfold State.postPoison; split_ifs <;> rfl
@[simp] theorem State.postPoison_log (s : State) (h : RecordHeader) : (s.postPoison h).log = s.log := by unfold State.postPoison; split_ifs <;> rfl
@[simp] theorem State.postPoison_rollback (s : State) (h : RecordHeader) : (s.postPoison h).rollback = s.rollback := by unfold State.postPoison; split_ifs <;> rfl
@[simp] theorem State.postPoison_scan (s : State) (h : RecordHeader) : (s.postPoison h).scan = s.scan := by unfold State.postPoison; split_ifs <;> rfl
@[simp] theorem State.postPoison_maintOffer (s : State) (h : RecordHeader) : (s.postPoison h).maintOffer = s.maintOffer := by unfold State.postPoison; split_ifs <;> rfl
@[simp] theorem State.postPoison_port (s : State) (h : RecordHeader) : (s.postPoison h).port = s.port := by unfold State.postPoison; split_ifs <;> rfl
@[simp] theorem State.postPoison_link (s : State) (h : RecordHeader) : (s.postPoison h).link = s.link := by unfold State.postPoison; split_ifs <;> rfl

/-! ### enterRecord -/

@[simp] theorem State.enterRecord_pending (s : State) (e : Entry) (run : Run) (r : Record) (n : Nat) : (s.enterRecord e run r n).pending = s.pending := by simp [State.enterRecord]
@[simp] theorem State.enterRecord_rstLow (s : State) (e : Entry) (run : Run) (r : Record) (n : Nat) : (s.enterRecord e run r n).rstLow = s.rstLow := by simp [State.enterRecord]
@[simp] theorem State.enterRecord_host (s : State) (e : Entry) (run : Run) (r : Record) (n : Nat) : (s.enterRecord e run r n).host = s.host := by simp [State.enterRecord]
@[simp] theorem State.enterRecord_regions (s : State) (e : Entry) (run : Run) (r : Record) (n : Nat) : (s.enterRecord e run r n).regions = s.regions := by simp [State.enterRecord]
@[simp] theorem State.enterRecord_rollback (s : State) (e : Entry) (run : Run) (r : Record) (n : Nat) : (s.enterRecord e run r n).rollback = s.rollback := by simp [State.enterRecord]
@[simp] theorem State.enterRecord_scan (s : State) (e : Entry) (run : Run) (r : Record) (n : Nat) : (s.enterRecord e run r n).scan = s.scan := by simp [State.enterRecord]
@[simp] theorem State.enterRecord_maintOffer (s : State) (e : Entry) (run : Run) (r : Record) (n : Nat) : (s.enterRecord e run r n).maintOffer = s.maintOffer := by simp [State.enterRecord]
@[simp] theorem State.enterRecord_port (s : State) (e : Entry) (run : Run) (r : Record) (n : Nat) : (s.enterRecord e run r n).port = s.port := by simp [State.enterRecord]
@[simp] theorem State.enterRecord_link (s : State) (e : Entry) (run : Run) (r : Record) (n : Nat) : (s.enterRecord e run r n).link = s.link := by simp [State.enterRecord]

/-! ### createRecord -/

@[simp] theorem State.createRecord_pending (s : State) (e : Entry) (run : Run) (p : Bool) (d : List Byte) : (s.createRecord e run p d).pending = s.pending := by simp [State.createRecord]
@[simp] theorem State.createRecord_rstLow (s : State) (e : Entry) (run : Run) (p : Bool) (d : List Byte) : (s.createRecord e run p d).rstLow = s.rstLow := by simp [State.createRecord]
@[simp] theorem State.createRecord_host (s : State) (e : Entry) (run : Run) (p : Bool) (d : List Byte) : (s.createRecord e run p d).host = s.host := by simp [State.createRecord]
@[simp] theorem State.createRecord_regions (s : State) (e : Entry) (run : Run) (p : Bool) (d : List Byte) : (s.createRecord e run p d).regions = s.regions := by simp [State.createRecord]
@[simp] theorem State.createRecord_rollback (s : State) (e : Entry) (run : Run) (p : Bool) (d : List Byte) : (s.createRecord e run p d).rollback = s.rollback := by simp [State.createRecord]
@[simp] theorem State.createRecord_scan (s : State) (e : Entry) (run : Run) (p : Bool) (d : List Byte) : (s.createRecord e run p d).scan = s.scan := by simp [State.createRecord]
@[simp] theorem State.createRecord_maintOffer (s : State) (e : Entry) (run : Run) (p : Bool) (d : List Byte) : (s.createRecord e run p d).maintOffer = s.maintOffer := by simp [State.createRecord]
@[simp] theorem State.createRecord_port (s : State) (e : Entry) (run : Run) (p : Bool) (d : List Byte) : (s.createRecord e run p d).port = s.port := by simp [State.createRecord]
@[simp] theorem State.createRecord_link (s : State) (e : Entry) (run : Run) (p : Bool) (d : List Byte) : (s.createRecord e run p d).link = s.link := by simp [State.createRecord]

/-! ### decideCapture -/

@[simp] theorem State.decideCapture_pending (s : State) (e : Entry) : (s.decideCapture e).pending = s.pending := rfl
@[simp] theorem State.decideCapture_rstLow (s : State) (e : Entry) : (s.decideCapture e).rstLow = s.rstLow := rfl
@[simp] theorem State.decideCapture_host (s : State) (e : Entry) : (s.decideCapture e).host = s.host := rfl
@[simp] theorem State.decideCapture_regions (s : State) (e : Entry) : (s.decideCapture e).regions = s.regions := rfl
@[simp] theorem State.decideCapture_staging (s : State) (e : Entry) : (s.decideCapture e).staging = s.staging := rfl
@[simp] theorem State.decideCapture_stream (s : State) (e : Entry) : (s.decideCapture e).stream = s.stream := rfl
@[simp] theorem State.decideCapture_log (s : State) (e : Entry) : (s.decideCapture e).log = s.log := rfl
@[simp] theorem State.decideCapture_rollback (s : State) (e : Entry) : (s.decideCapture e).rollback = s.rollback := rfl
@[simp] theorem State.decideCapture_scan (s : State) (e : Entry) : (s.decideCapture e).scan = s.scan := rfl
@[simp] theorem State.decideCapture_maintOffer (s : State) (e : Entry) : (s.decideCapture e).maintOffer = s.maintOffer := rfl
@[simp] theorem State.decideCapture_port (s : State) (e : Entry) : (s.decideCapture e).port = s.port := rfl
@[simp] theorem State.decideCapture_events (s : State) (e : Entry) : (s.decideCapture e).events = s.events := rfl
@[simp] theorem State.decideCapture_link (s : State) (e : Entry) : (s.decideCapture e).link = s.link := rfl

/-! ### recycleRelease -/

@[simp] theorem State.recycleRelease_pending (s : State) : (s.recycleRelease).pending = s.pending := by simp [State.recycleRelease]
@[simp] theorem State.recycleRelease_rstLow (s : State) : (s.recycleRelease).rstLow = s.rstLow := by simp [State.recycleRelease]
@[simp] theorem State.recycleRelease_host (s : State) : (s.recycleRelease).host = s.host := by simp [State.recycleRelease]
@[simp] theorem State.recycleRelease_window (s : State) : (s.recycleRelease).window = s.window := by simp [State.recycleRelease]
@[simp] theorem State.recycleRelease_regions (s : State) : (s.recycleRelease).regions = s.regions := by simp [State.recycleRelease]
@[simp] theorem State.recycleRelease_capture (s : State) : (s.recycleRelease).capture = { s.capture with walkOwed := true } := by simp [State.recycleRelease, State.oweWalk]
@[simp] theorem State.recycleRelease_staging (s : State) : (s.recycleRelease).staging = s.staging := by simp [State.recycleRelease]
@[simp] theorem State.recycleRelease_rollback (s : State) : (s.recycleRelease).rollback = s.rollback := by simp [State.recycleRelease]
@[simp] theorem State.recycleRelease_scan (s : State) : (s.recycleRelease).scan = s.scan := by simp [State.recycleRelease]
@[simp] theorem State.recycleRelease_maintOffer (s : State) : (s.recycleRelease).maintOffer = s.maintOffer := by simp [State.recycleRelease]
@[simp] theorem State.recycleRelease_port (s : State) : (s.recycleRelease).port = s.port := by simp [State.recycleRelease]
@[simp] theorem State.recycleRelease_link (s : State) : (s.recycleRelease).link = s.link := by simp [State.recycleRelease]

/-! ### grantRun -/

@[simp] theorem State.grantRun_pending (s : State) (e : Entry) (run : Run) : (s.grantRun e run).pending = s.pending := by simp [State.grantRun]
@[simp] theorem State.grantRun_rstLow (s : State) (e : Entry) (run : Run) : (s.grantRun e run).rstLow = s.rstLow := by simp [State.grantRun]
@[simp] theorem State.grantRun_host (s : State) (e : Entry) (run : Run) : (s.grantRun e run).host = s.host := by simp [State.grantRun]
@[simp] theorem State.grantRun_regions (s : State) (e : Entry) (run : Run) : (s.grantRun e run).regions = s.regions := by simp [State.grantRun]
@[simp] theorem State.grantRun_capture (s : State) (e : Entry) (run : Run) : (s.grantRun e run).capture = s.capture := by simp [State.grantRun]
@[simp] theorem State.grantRun_stream (s : State) (e : Entry) (run : Run) : (s.grantRun e run).stream = s.stream := by simp [State.grantRun]
@[simp] theorem State.grantRun_rollback (s : State) (e : Entry) (run : Run) : (s.grantRun e run).rollback = s.rollback := by simp [State.grantRun]
@[simp] theorem State.grantRun_scan (s : State) (e : Entry) (run : Run) : (s.grantRun e run).scan = s.scan := by simp [State.grantRun]
@[simp] theorem State.grantRun_maintOffer (s : State) (e : Entry) (run : Run) : (s.grantRun e run).maintOffer = s.maintOffer := by simp [State.grantRun]
@[simp] theorem State.grantRun_port (s : State) (e : Entry) (run : Run) : (s.grantRun e run).port = s.port := by simp [State.grantRun]
@[simp] theorem State.grantRun_events (s : State) (e : Entry) (run : Run) : (s.grantRun e run).events = s.events := by simp [State.grantRun]
@[simp] theorem State.grantRun_link (s : State) (e : Entry) (run : Run) : (s.grantRun e run).link = s.link := by simp [State.grantRun]

/-! ### postLogFull -/

@[simp] theorem State.postLogFull_pending (s : State) (e : Entry) (run : Run) : (s.postLogFull e run).pending = s.pending := by unfold State.postLogFull; split_ifs <;> rfl
@[simp] theorem State.postLogFull_rstLow (s : State) (e : Entry) (run : Run) : (s.postLogFull e run).rstLow = s.rstLow := by unfold State.postLogFull; split_ifs <;> rfl
@[simp] theorem State.postLogFull_host (s : State) (e : Entry) (run : Run) : (s.postLogFull e run).host = s.host := by unfold State.postLogFull; split_ifs <;> rfl
@[simp] theorem State.postLogFull_window (s : State) (e : Entry) (run : Run) : (s.postLogFull e run).window = s.window := by unfold State.postLogFull; split_ifs <;> rfl
@[simp] theorem State.postLogFull_regions (s : State) (e : Entry) (run : Run) : (s.postLogFull e run).regions = s.regions := by unfold State.postLogFull; split_ifs <;> rfl
@[simp] theorem State.postLogFull_capture (s : State) (e : Entry) (run : Run) : (s.postLogFull e run).capture = s.capture := by unfold State.postLogFull; split_ifs <;> rfl
@[simp] theorem State.postLogFull_staging (s : State) (e : Entry) (run : Run) : (s.postLogFull e run).staging = s.staging := by unfold State.postLogFull; split_ifs <;> rfl
@[simp] theorem State.postLogFull_stream (s : State) (e : Entry) (run : Run) : (s.postLogFull e run).stream = s.stream := by unfold State.postLogFull; split_ifs <;> rfl
@[simp] theorem State.postLogFull_rollback (s : State) (e : Entry) (run : Run) : (s.postLogFull e run).rollback = s.rollback := by unfold State.postLogFull; split_ifs <;> rfl
@[simp] theorem State.postLogFull_scan (s : State) (e : Entry) (run : Run) : (s.postLogFull e run).scan = s.scan := by unfold State.postLogFull; split_ifs <;> rfl
@[simp] theorem State.postLogFull_maintOffer (s : State) (e : Entry) (run : Run) : (s.postLogFull e run).maintOffer = s.maintOffer := by unfold State.postLogFull; split_ifs <;> rfl
@[simp] theorem State.postLogFull_port (s : State) (e : Entry) (run : Run) : (s.postLogFull e run).port = s.port := by unfold State.postLogFull; split_ifs <;> rfl
@[simp] theorem State.postLogFull_link (s : State) (e : Entry) (run : Run) : (s.postLogFull e run).link = s.link := by unfold State.postLogFull; split_ifs <;> rfl

/-! ### stallRun -/

@[simp] theorem State.stallRun_pending (s : State) (e : Entry) (run : Run) : (s.stallRun e run).pending = s.pending := by unfold State.stallRun; split_ifs <;> simp
@[simp] theorem State.stallRun_rstLow (s : State) (e : Entry) (run : Run) : (s.stallRun e run).rstLow = s.rstLow := by unfold State.stallRun; split_ifs <;> simp
@[simp] theorem State.stallRun_host (s : State) (e : Entry) (run : Run) : (s.stallRun e run).host = s.host := by unfold State.stallRun; split_ifs <;> simp
@[simp] theorem State.stallRun_regions (s : State) (e : Entry) (run : Run) : (s.stallRun e run).regions = s.regions := by unfold State.stallRun; split_ifs <;> simp
@[simp] theorem State.stallRun_capture (s : State) (e : Entry) (run : Run) : (s.stallRun e run).capture = s.capture := by unfold State.stallRun; split_ifs <;> simp
@[simp] theorem State.stallRun_staging (s : State) (e : Entry) (run : Run) : (s.stallRun e run).staging = s.staging := by unfold State.stallRun; split_ifs <;> simp
@[simp] theorem State.stallRun_stream (s : State) (e : Entry) (run : Run) : (s.stallRun e run).stream = s.stream := by unfold State.stallRun; split_ifs <;> simp
@[simp] theorem State.stallRun_rollback (s : State) (e : Entry) (run : Run) : (s.stallRun e run).rollback = s.rollback := by unfold State.stallRun; split_ifs <;> simp
@[simp] theorem State.stallRun_scan (s : State) (e : Entry) (run : Run) : (s.stallRun e run).scan = s.scan := by unfold State.stallRun; split_ifs <;> simp
@[simp] theorem State.stallRun_maintOffer (s : State) (e : Entry) (run : Run) : (s.stallRun e run).maintOffer = s.maintOffer := by unfold State.stallRun; split_ifs <;> simp
@[simp] theorem State.stallRun_port (s : State) (e : Entry) (run : Run) : (s.stallRun e run).port = s.port := by unfold State.stallRun; split_ifs <;> simp
@[simp] theorem State.stallRun_link (s : State) (e : Entry) (run : Run) : (s.stallRun e run).link = s.link := by unfold State.stallRun; split_ifs <;> simp

/-! ### setFaultLatch -/

@[simp] theorem State.setFaultLatch_pending (s : State) (b : Bool) : (s.setFaultLatch b).pending = s.pending := rfl
@[simp] theorem State.setFaultLatch_rstLow (s : State) (b : Bool) : (s.setFaultLatch b).rstLow = s.rstLow := rfl
@[simp] theorem State.setFaultLatch_host (s : State) (b : Bool) : (s.setFaultLatch b).host = s.host := rfl
@[simp] theorem State.setFaultLatch_window (s : State) (b : Bool) : (s.setFaultLatch b).window = s.window := rfl
@[simp] theorem State.setFaultLatch_regions (s : State) (b : Bool) : (s.setFaultLatch b).regions = s.regions := rfl
@[simp] theorem State.setFaultLatch_capture (s : State) (b : Bool) : (s.setFaultLatch b).capture = s.capture := rfl
@[simp] theorem State.setFaultLatch_staging (s : State) (b : Bool) : (s.setFaultLatch b).staging = s.staging := rfl
@[simp] theorem State.setFaultLatch_stream (s : State) (b : Bool) : (s.setFaultLatch b).stream = s.stream := rfl
@[simp] theorem State.setFaultLatch_rollback (s : State) (b : Bool) : (s.setFaultLatch b).rollback = s.rollback := rfl
@[simp] theorem State.setFaultLatch_scan (s : State) (b : Bool) : (s.setFaultLatch b).scan = s.scan := rfl
@[simp] theorem State.setFaultLatch_maintOffer (s : State) (b : Bool) : (s.setFaultLatch b).maintOffer = s.maintOffer := rfl
@[simp] theorem State.setFaultLatch_port (s : State) (b : Bool) : (s.setFaultLatch b).port = s.port := rfl
@[simp] theorem State.setFaultLatch_events (s : State) (b : Bool) : (s.setFaultLatch b).events = s.events := rfl
@[simp] theorem State.setFaultLatch_link (s : State) (b : Bool) : (s.setFaultLatch b).link = s.link := rfl

/-! ### setCheckpointLatch -/

@[simp] theorem State.setCheckpointLatch_pending (s : State) (b : Bool) : (s.setCheckpointLatch b).pending = s.pending := rfl
@[simp] theorem State.setCheckpointLatch_rstLow (s : State) (b : Bool) : (s.setCheckpointLatch b).rstLow = s.rstLow := rfl
@[simp] theorem State.setCheckpointLatch_host (s : State) (b : Bool) : (s.setCheckpointLatch b).host = s.host := rfl
@[simp] theorem State.setCheckpointLatch_window (s : State) (b : Bool) : (s.setCheckpointLatch b).window = s.window := rfl
@[simp] theorem State.setCheckpointLatch_regions (s : State) (b : Bool) : (s.setCheckpointLatch b).regions = s.regions := rfl
@[simp] theorem State.setCheckpointLatch_capture (s : State) (b : Bool) : (s.setCheckpointLatch b).capture = s.capture := rfl
@[simp] theorem State.setCheckpointLatch_staging (s : State) (b : Bool) : (s.setCheckpointLatch b).staging = s.staging := rfl
@[simp] theorem State.setCheckpointLatch_stream (s : State) (b : Bool) : (s.setCheckpointLatch b).stream = s.stream := rfl
@[simp] theorem State.setCheckpointLatch_rollback (s : State) (b : Bool) : (s.setCheckpointLatch b).rollback = s.rollback := rfl
@[simp] theorem State.setCheckpointLatch_scan (s : State) (b : Bool) : (s.setCheckpointLatch b).scan = s.scan := rfl
@[simp] theorem State.setCheckpointLatch_maintOffer (s : State) (b : Bool) : (s.setCheckpointLatch b).maintOffer = s.maintOffer := rfl
@[simp] theorem State.setCheckpointLatch_port (s : State) (b : Bool) : (s.setCheckpointLatch b).port = s.port := rfl
@[simp] theorem State.setCheckpointLatch_events (s : State) (b : Bool) : (s.setCheckpointLatch b).events = s.events := rfl
@[simp] theorem State.setCheckpointLatch_link (s : State) (b : Bool) : (s.setCheckpointLatch b).link = s.link := rfl

/-! ### dropCheckpointLatch -/

@[simp] theorem State.dropCheckpointLatch_pending (s : State) : (s.dropCheckpointLatch).pending = s.pending := by unfold State.dropCheckpointLatch; split_ifs <;> rfl
@[simp] theorem State.dropCheckpointLatch_rstLow (s : State) : (s.dropCheckpointLatch).rstLow = s.rstLow := by unfold State.dropCheckpointLatch; split_ifs <;> rfl
@[simp] theorem State.dropCheckpointLatch_host (s : State) : (s.dropCheckpointLatch).host = s.host := by unfold State.dropCheckpointLatch; split_ifs <;> rfl
@[simp] theorem State.dropCheckpointLatch_window (s : State) : (s.dropCheckpointLatch).window = s.window := by unfold State.dropCheckpointLatch; split_ifs <;> rfl
@[simp] theorem State.dropCheckpointLatch_regions (s : State) : (s.dropCheckpointLatch).regions = s.regions := by unfold State.dropCheckpointLatch; split_ifs <;> rfl
@[simp] theorem State.dropCheckpointLatch_capture (s : State) : (s.dropCheckpointLatch).capture = s.capture := by unfold State.dropCheckpointLatch; split_ifs <;> rfl
@[simp] theorem State.dropCheckpointLatch_staging (s : State) : (s.dropCheckpointLatch).staging = s.staging := by unfold State.dropCheckpointLatch; split_ifs <;> rfl
@[simp] theorem State.dropCheckpointLatch_stream (s : State) : (s.dropCheckpointLatch).stream = s.stream := by unfold State.dropCheckpointLatch; split_ifs <;> rfl
@[simp] theorem State.dropCheckpointLatch_rollback (s : State) : (s.dropCheckpointLatch).rollback = s.rollback := by unfold State.dropCheckpointLatch; split_ifs <;> rfl
@[simp] theorem State.dropCheckpointLatch_scan (s : State) : (s.dropCheckpointLatch).scan = s.scan := by unfold State.dropCheckpointLatch; split_ifs <;> rfl
@[simp] theorem State.dropCheckpointLatch_maintOffer (s : State) : (s.dropCheckpointLatch).maintOffer = s.maintOffer := by unfold State.dropCheckpointLatch; split_ifs <;> rfl
@[simp] theorem State.dropCheckpointLatch_port (s : State) : (s.dropCheckpointLatch).port = s.port := by unfold State.dropCheckpointLatch; split_ifs <;> rfl
@[simp] theorem State.dropCheckpointLatch_link (s : State) : (s.dropCheckpointLatch).link = s.link := by unfold State.dropCheckpointLatch; split_ifs <;> rfl

/-! ### dropFaultLatch -/

@[simp] theorem State.dropFaultLatch_pending (s : State) (p : EngineState) : (s.dropFaultLatch p).pending = s.pending := by unfold State.dropFaultLatch; split_ifs <;> rfl
@[simp] theorem State.dropFaultLatch_rstLow (s : State) (p : EngineState) : (s.dropFaultLatch p).rstLow = s.rstLow := by unfold State.dropFaultLatch; split_ifs <;> rfl
@[simp] theorem State.dropFaultLatch_host (s : State) (p : EngineState) : (s.dropFaultLatch p).host = s.host := by unfold State.dropFaultLatch; split_ifs <;> rfl
@[simp] theorem State.dropFaultLatch_window (s : State) (p : EngineState) : (s.dropFaultLatch p).window = s.window := by unfold State.dropFaultLatch; split_ifs <;> rfl
@[simp] theorem State.dropFaultLatch_regions (s : State) (p : EngineState) : (s.dropFaultLatch p).regions = s.regions := by unfold State.dropFaultLatch; split_ifs <;> rfl
@[simp] theorem State.dropFaultLatch_capture (s : State) (p : EngineState) : (s.dropFaultLatch p).capture = s.capture := by unfold State.dropFaultLatch; split_ifs <;> rfl
@[simp] theorem State.dropFaultLatch_staging (s : State) (p : EngineState) : (s.dropFaultLatch p).staging = s.staging := by unfold State.dropFaultLatch; split_ifs <;> rfl
@[simp] theorem State.dropFaultLatch_stream (s : State) (p : EngineState) : (s.dropFaultLatch p).stream = s.stream := by unfold State.dropFaultLatch; split_ifs <;> rfl
@[simp] theorem State.dropFaultLatch_rollback (s : State) (p : EngineState) : (s.dropFaultLatch p).rollback = s.rollback := by unfold State.dropFaultLatch; split_ifs <;> rfl
@[simp] theorem State.dropFaultLatch_scan (s : State) (p : EngineState) : (s.dropFaultLatch p).scan = s.scan := by unfold State.dropFaultLatch; split_ifs <;> rfl
@[simp] theorem State.dropFaultLatch_maintOffer (s : State) (p : EngineState) : (s.dropFaultLatch p).maintOffer = s.maintOffer := by unfold State.dropFaultLatch; split_ifs <;> rfl
@[simp] theorem State.dropFaultLatch_port (s : State) (p : EngineState) : (s.dropFaultLatch p).port = s.port := by unfold State.dropFaultLatch; split_ifs <;> rfl
@[simp] theorem State.dropFaultLatch_link (s : State) (p : EngineState) : (s.dropFaultLatch p).link = s.link := by unfold State.dropFaultLatch; split_ifs <;> rfl

/-! ### closeMark -/

@[simp] theorem State.closeMark_pending (s : State) : (s.closeMark).pending = s.pending := rfl
@[simp] theorem State.closeMark_rstLow (s : State) : (s.closeMark).rstLow = s.rstLow := rfl
@[simp] theorem State.closeMark_host (s : State) : (s.closeMark).host = s.host := rfl
@[simp] theorem State.closeMark_window (s : State) : (s.closeMark).window = s.window := rfl
@[simp] theorem State.closeMark_regions (s : State) : (s.closeMark).regions = s.regions := rfl
@[simp] theorem State.closeMark_capture (s : State) : (s.closeMark).capture = s.capture := rfl
@[simp] theorem State.closeMark_staging (s : State) : (s.closeMark).staging = s.staging := rfl
@[simp] theorem State.closeMark_stream (s : State) : (s.closeMark).stream = s.stream := rfl
@[simp] theorem State.closeMark_rollback (s : State) : (s.closeMark).rollback = s.rollback := rfl
@[simp] theorem State.closeMark_scan (s : State) : (s.closeMark).scan = s.scan := rfl
@[simp] theorem State.closeMark_maintOffer (s : State) : (s.closeMark).maintOffer = s.maintOffer := rfl
@[simp] theorem State.closeMark_port (s : State) : (s.closeMark).port = s.port := rfl
@[simp] theorem State.closeMark_events (s : State) : (s.closeMark).events = s.events := rfl
@[simp] theorem State.closeMark_link (s : State) : (s.closeMark).link = s.link := rfl

/-! ### openMark -/

@[simp] theorem State.openMark_pending (s : State) (n : Num) : (s.openMark n).pending = s.pending := rfl
@[simp] theorem State.openMark_rstLow (s : State) (n : Num) : (s.openMark n).rstLow = s.rstLow := rfl
@[simp] theorem State.openMark_host (s : State) (n : Num) : (s.openMark n).host = s.host := rfl
@[simp] theorem State.openMark_window (s : State) (n : Num) : (s.openMark n).window = s.window := rfl
@[simp] theorem State.openMark_regions (s : State) (n : Num) : (s.openMark n).regions = s.regions := rfl
@[simp] theorem State.openMark_capture (s : State) (n : Num) : (s.openMark n).capture = s.capture := rfl
@[simp] theorem State.openMark_staging (s : State) (n : Num) : (s.openMark n).staging = s.staging := rfl
@[simp] theorem State.openMark_stream (s : State) (n : Num) : (s.openMark n).stream = s.stream := rfl
@[simp] theorem State.openMark_rollback (s : State) (n : Num) : (s.openMark n).rollback = s.rollback := rfl
@[simp] theorem State.openMark_scan (s : State) (n : Num) : (s.openMark n).scan = s.scan := rfl
@[simp] theorem State.openMark_maintOffer (s : State) (n : Num) : (s.openMark n).maintOffer = s.maintOffer := rfl
@[simp] theorem State.openMark_port (s : State) (n : Num) : (s.openMark n).port = s.port := rfl
@[simp] theorem State.openMark_events (s : State) (n : Num) : (s.openMark n).events = s.events := rfl
@[simp] theorem State.openMark_link (s : State) (n : Num) : (s.openMark n).link = s.link := rfl

/-! ### endInLogFault -/

@[simp] theorem State.endInLogFault_pending (s : State) : (s.endInLogFault).pending = s.pending := rfl
@[simp] theorem State.endInLogFault_rstLow (s : State) : (s.endInLogFault).rstLow = s.rstLow := rfl
@[simp] theorem State.endInLogFault_host (s : State) : (s.endInLogFault).host = s.host := rfl
@[simp] theorem State.endInLogFault_window (s : State) : (s.endInLogFault).window = s.window := rfl
@[simp] theorem State.endInLogFault_regions (s : State) : (s.endInLogFault).regions = s.regions := rfl
@[simp] theorem State.endInLogFault_capture (s : State) : (s.endInLogFault).capture = s.capture := rfl
@[simp] theorem State.endInLogFault_staging (s : State) : (s.endInLogFault).staging = s.staging := rfl
@[simp] theorem State.endInLogFault_stream (s : State) : (s.endInLogFault).stream = s.stream := rfl
@[simp] theorem State.endInLogFault_port (s : State) : (s.endInLogFault).port = s.port := rfl
@[simp] theorem State.endInLogFault_events (s : State) : (s.endInLogFault).events = s.events := rfl
@[simp] theorem State.endInLogFault_link (s : State) : (s.endInLogFault).link = s.link := rfl

/-! ### postLogFault -/

@[simp] theorem State.postLogFault_pending (s : State) (i : StreamItem) : (s.postLogFault i).pending = s.pending := rfl
@[simp] theorem State.postLogFault_rstLow (s : State) (i : StreamItem) : (s.postLogFault i).rstLow = s.rstLow := rfl
@[simp] theorem State.postLogFault_host (s : State) (i : StreamItem) : (s.postLogFault i).host = s.host := rfl
@[simp] theorem State.postLogFault_window (s : State) (i : StreamItem) : (s.postLogFault i).window = s.window := rfl
@[simp] theorem State.postLogFault_regions (s : State) (i : StreamItem) : (s.postLogFault i).regions = s.regions := rfl
@[simp] theorem State.postLogFault_capture (s : State) (i : StreamItem) : (s.postLogFault i).capture = s.capture := rfl
@[simp] theorem State.postLogFault_staging (s : State) (i : StreamItem) : (s.postLogFault i).staging = s.staging := rfl
@[simp] theorem State.postLogFault_stream (s : State) (i : StreamItem) : (s.postLogFault i).stream = s.stream := rfl
@[simp] theorem State.postLogFault_log (s : State) (i : StreamItem) : (s.postLogFault i).log = s.log := rfl
@[simp] theorem State.postLogFault_rollback (s : State) (i : StreamItem) : (s.postLogFault i).rollback = s.rollback := rfl
@[simp] theorem State.postLogFault_scan (s : State) (i : StreamItem) : (s.postLogFault i).scan = s.scan := rfl
@[simp] theorem State.postLogFault_maintOffer (s : State) (i : StreamItem) : (s.postLogFault i).maintOffer = s.maintOffer := rfl
@[simp] theorem State.postLogFault_port (s : State) (i : StreamItem) : (s.postLogFault i).port = s.port := rfl
@[simp] theorem State.postLogFault_link (s : State) (i : StreamItem) : (s.postLogFault i).link = s.link := rfl

/-! ### acceptCheckpoint -/

@[simp] theorem State.acceptCheckpoint_pending (s : State) : (s.acceptCheckpoint).pending = s.pending := rfl
@[simp] theorem State.acceptCheckpoint_rstLow (s : State) : (s.acceptCheckpoint).rstLow = s.rstLow := rfl
@[simp] theorem State.acceptCheckpoint_host (s : State) : (s.acceptCheckpoint).host = s.host := rfl
@[simp] theorem State.acceptCheckpoint_window (s : State) : (s.acceptCheckpoint).window = s.window := rfl
@[simp] theorem State.acceptCheckpoint_regions (s : State) : (s.acceptCheckpoint).regions = s.regions := rfl
@[simp] theorem State.acceptCheckpoint_capture (s : State) : (s.acceptCheckpoint).capture = s.capture := rfl
@[simp] theorem State.acceptCheckpoint_staging (s : State) : (s.acceptCheckpoint).staging = s.staging := rfl
@[simp] theorem State.acceptCheckpoint_stream (s : State) : (s.acceptCheckpoint).stream = s.stream := rfl
@[simp] theorem State.acceptCheckpoint_rollback (s : State) : (s.acceptCheckpoint).rollback = s.rollback := rfl
@[simp] theorem State.acceptCheckpoint_scan (s : State) : (s.acceptCheckpoint).scan = s.scan := rfl
@[simp] theorem State.acceptCheckpoint_maintOffer (s : State) : (s.acceptCheckpoint).maintOffer = s.maintOffer := rfl
@[simp] theorem State.acceptCheckpoint_port (s : State) : (s.acceptCheckpoint).port = s.port := rfl
@[simp] theorem State.acceptCheckpoint_events (s : State) : (s.acceptCheckpoint).events = s.events := rfl
@[simp] theorem State.acceptCheckpoint_link (s : State) : (s.acceptCheckpoint).link = s.link := rfl

/-! ### dropForBoundary -/

@[simp] theorem State.dropForBoundary_pending (s : State) : (s.dropForBoundary).pending = s.pending := by unfold State.dropForBoundary; split_ifs <;> simp
@[simp] theorem State.dropForBoundary_rstLow (s : State) : (s.dropForBoundary).rstLow = s.rstLow := by unfold State.dropForBoundary; split_ifs <;> simp
@[simp] theorem State.dropForBoundary_host (s : State) : (s.dropForBoundary).host = s.host := by unfold State.dropForBoundary; split_ifs <;> simp
@[simp] theorem State.dropForBoundary_window (s : State) : (s.dropForBoundary).window = s.window := by unfold State.dropForBoundary; split_ifs <;> simp
@[simp] theorem State.dropForBoundary_regions (s : State) : (s.dropForBoundary).regions = s.regions := by unfold State.dropForBoundary; split_ifs <;> simp
@[simp] theorem State.dropForBoundary_staging (s : State) : (s.dropForBoundary).staging = s.staging := by unfold State.dropForBoundary; split_ifs <;> simp
@[simp] theorem State.dropForBoundary_stream (s : State) : (s.dropForBoundary).stream = s.stream := by unfold State.dropForBoundary; split_ifs <;> simp
@[simp] theorem State.dropForBoundary_rollback (s : State) : (s.dropForBoundary).rollback = s.rollback := by unfold State.dropForBoundary; split_ifs <;> simp
@[simp] theorem State.dropForBoundary_scan (s : State) : (s.dropForBoundary).scan = s.scan := by unfold State.dropForBoundary; split_ifs <;> simp
@[simp] theorem State.dropForBoundary_maintOffer (s : State) : (s.dropForBoundary).maintOffer = s.maintOffer := by unfold State.dropForBoundary; split_ifs <;> simp
@[simp] theorem State.dropForBoundary_port (s : State) : (s.dropForBoundary).port = s.port := by unfold State.dropForBoundary; split_ifs <;> simp
@[simp] theorem State.dropForBoundary_link (s : State) : (s.dropForBoundary).link = s.link := by unfold State.dropForBoundary; split_ifs <;> simp

/-! ### dropLatches -/

@[simp] theorem State.dropLatches_pending (s : State) : (s.dropLatches).pending = s.pending := by simp [State.dropLatches]
@[simp] theorem State.dropLatches_rstLow (s : State) : (s.dropLatches).rstLow = s.rstLow := by simp [State.dropLatches]
@[simp] theorem State.dropLatches_host (s : State) : (s.dropLatches).host = s.host := by simp [State.dropLatches]
@[simp] theorem State.dropLatches_window (s : State) : (s.dropLatches).window = s.window := by simp [State.dropLatches]
@[simp] theorem State.dropLatches_regions (s : State) : (s.dropLatches).regions = s.regions := by simp [State.dropLatches]
@[simp] theorem State.dropLatches_capture (s : State) : (s.dropLatches).capture = s.capture := by simp [State.dropLatches]
@[simp] theorem State.dropLatches_staging (s : State) : (s.dropLatches).staging = s.staging := by simp [State.dropLatches]
@[simp] theorem State.dropLatches_stream (s : State) : (s.dropLatches).stream = s.stream := by simp [State.dropLatches]
@[simp] theorem State.dropLatches_rollback (s : State) : (s.dropLatches).rollback = s.rollback := by simp [State.dropLatches]
@[simp] theorem State.dropLatches_scan (s : State) : (s.dropLatches).scan = s.scan := by simp [State.dropLatches]
@[simp] theorem State.dropLatches_maintOffer (s : State) : (s.dropLatches).maintOffer = s.maintOffer := by simp [State.dropLatches]
@[simp] theorem State.dropLatches_port (s : State) : (s.dropLatches).port = s.port := by simp [State.dropLatches]
@[simp] theorem State.dropLatches_link (s : State) : (s.dropLatches).link = s.link := by simp [State.dropLatches]

/-! ### truncateStream -/

@[simp] theorem State.truncateStream_pending (s : State) (f : StreamItem → Bool) : (s.truncateStream f).pending = s.pending := rfl
@[simp] theorem State.truncateStream_rstLow (s : State) (f : StreamItem → Bool) : (s.truncateStream f).rstLow = s.rstLow := rfl
@[simp] theorem State.truncateStream_host (s : State) (f : StreamItem → Bool) : (s.truncateStream f).host = s.host := rfl
@[simp] theorem State.truncateStream_window (s : State) (f : StreamItem → Bool) : (s.truncateStream f).window = s.window := rfl
@[simp] theorem State.truncateStream_regions (s : State) (f : StreamItem → Bool) : (s.truncateStream f).regions = s.regions := rfl
@[simp] theorem State.truncateStream_capture (s : State) (f : StreamItem → Bool) : (s.truncateStream f).capture = s.capture := rfl
@[simp] theorem State.truncateStream_rollback (s : State) (f : StreamItem → Bool) : (s.truncateStream f).rollback = s.rollback := rfl
@[simp] theorem State.truncateStream_scan (s : State) (f : StreamItem → Bool) : (s.truncateStream f).scan = s.scan := rfl
@[simp] theorem State.truncateStream_maintOffer (s : State) (f : StreamItem → Bool) : (s.truncateStream f).maintOffer = s.maintOffer := rfl
@[simp] theorem State.truncateStream_events (s : State) (f : StreamItem → Bool) : (s.truncateStream f).events = s.events := rfl
@[simp] theorem State.truncateStream_link (s : State) (f : StreamItem → Bool) : (s.truncateStream f).link = s.link := rfl

/-! ### persistRecord -/

@[simp] theorem State.persistRecord_pending (s : State) (r : Record) : (s.persistRecord r).pending = s.pending := rfl
@[simp] theorem State.persistRecord_rstLow (s : State) (r : Record) : (s.persistRecord r).rstLow = s.rstLow := rfl
@[simp] theorem State.persistRecord_host (s : State) (r : Record) : (s.persistRecord r).host = s.host := rfl
@[simp] theorem State.persistRecord_regions (s : State) (r : Record) : (s.persistRecord r).regions = s.regions := rfl
@[simp] theorem State.persistRecord_rollback (s : State) (r : Record) : (s.persistRecord r).rollback = s.rollback := rfl
@[simp] theorem State.persistRecord_scan (s : State) (r : Record) : (s.persistRecord r).scan = s.scan := rfl
@[simp] theorem State.persistRecord_maintOffer (s : State) (r : Record) : (s.persistRecord r).maintOffer = s.maintOffer := rfl
@[simp] theorem State.persistRecord_port (s : State) (r : Record) : (s.persistRecord r).port = s.port := rfl
@[simp] theorem State.persistRecord_events (s : State) (r : Record) : (s.persistRecord r).events = s.events := rfl
@[simp] theorem State.persistRecord_link (s : State) (r : Record) : (s.persistRecord r).link = s.link := rfl

/-! ### acceptRollback and the latches -/

@[simp] theorem State.acceptRollback_pending (s : State) (m : Mark) : (s.acceptRollback m).pending = s.pending := by simp [State.acceptRollback]
@[simp] theorem State.acceptRollback_rstLow (s : State) (m : Mark) : (s.acceptRollback m).rstLow = s.rstLow := by simp [State.acceptRollback]
@[simp] theorem State.acceptRollback_regions (s : State) (m : Mark) : (s.acceptRollback m).regions = s.regions := by simp [State.acceptRollback]
@[simp] theorem State.acceptRollback_stream (s : State) (m : Mark) : (s.acceptRollback m).stream = s.stream := by simp [State.acceptRollback]
@[simp] theorem State.acceptRollback_scan (s : State) (m : Mark) : (s.acceptRollback m).scan = s.scan := by simp [State.acceptRollback]
@[simp] theorem State.acceptRollback_maintOffer (s : State) (m : Mark) : (s.acceptRollback m).maintOffer = s.maintOffer := by simp [State.acceptRollback]
@[simp] theorem State.acceptRollback_link (s : State) (m : Mark) : (s.acceptRollback m).link = s.link := by simp [State.acceptRollback]

@[simp] theorem State.acceptFaultRollback_pending (s : State) : (s.acceptFaultRollback).pending = s.pending := by unfold State.acceptFaultRollback; split <;> simp
@[simp] theorem State.acceptFaultRollback_rstLow (s : State) : (s.acceptFaultRollback).rstLow = s.rstLow := by unfold State.acceptFaultRollback; split <;> simp
@[simp] theorem State.acceptFaultRollback_regions (s : State) : (s.acceptFaultRollback).regions = s.regions := by unfold State.acceptFaultRollback; split <;> simp
@[simp] theorem State.acceptFaultRollback_stream (s : State) : (s.acceptFaultRollback).stream = s.stream := by unfold State.acceptFaultRollback; split <;> simp
@[simp] theorem State.acceptFaultRollback_scan (s : State) : (s.acceptFaultRollback).scan = s.scan := by unfold State.acceptFaultRollback; split <;> simp
@[simp] theorem State.acceptFaultRollback_maintOffer (s : State) : (s.acceptFaultRollback).maintOffer = s.maintOffer := by unfold State.acceptFaultRollback; split <;> simp
@[simp] theorem State.acceptFaultRollback_link (s : State) : (s.acceptFaultRollback).link = s.link := by unfold State.acceptFaultRollback; split <;> simp

@[simp] theorem State.actOnLatches_pending (s : State) : (s.actOnLatches).pending = s.pending := by unfold State.actOnLatches; split_ifs <;> simp
@[simp] theorem State.actOnLatches_rstLow (s : State) : (s.actOnLatches).rstLow = s.rstLow := by unfold State.actOnLatches; split_ifs <;> simp
@[simp] theorem State.actOnLatches_regions (s : State) : (s.actOnLatches).regions = s.regions := by unfold State.actOnLatches; split_ifs <;> simp
@[simp] theorem State.actOnLatches_stream (s : State) : (s.actOnLatches).stream = s.stream := by unfold State.actOnLatches; split_ifs <;> simp
@[simp] theorem State.actOnLatches_scan (s : State) : (s.actOnLatches).scan = s.scan := by unfold State.actOnLatches; split_ifs <;> simp
@[simp] theorem State.actOnLatches_maintOffer (s : State) : (s.actOnLatches).maintOffer = s.maintOffer := by unfold State.actOnLatches; split_ifs <;> simp
@[simp] theorem State.actOnLatches_link (s : State) : (s.actOnLatches).link = s.link := by unfold State.actOnLatches; split_ifs <;> simp

@[simp] theorem State.cancelAtLoggingStart_pending (s : State) : (s.cancelAtLoggingStart).pending = s.pending := by simp [State.cancelAtLoggingStart]
@[simp] theorem State.cancelAtLoggingStart_rstLow (s : State) : (s.cancelAtLoggingStart).rstLow = s.rstLow := by simp [State.cancelAtLoggingStart]
@[simp] theorem State.cancelAtLoggingStart_regions (s : State) : (s.cancelAtLoggingStart).regions = s.regions := by simp [State.cancelAtLoggingStart]
@[simp] theorem State.cancelAtLoggingStart_stream (s : State) : (s.cancelAtLoggingStart).stream = s.stream := by simp [State.cancelAtLoggingStart]
@[simp] theorem State.cancelAtLoggingStart_rollback (s : State) : (s.cancelAtLoggingStart).rollback = s.rollback := by simp [State.cancelAtLoggingStart]
@[simp] theorem State.cancelAtLoggingStart_scan (s : State) : (s.cancelAtLoggingStart).scan = s.scan := by simp [State.cancelAtLoggingStart]
@[simp] theorem State.cancelAtLoggingStart_maintOffer (s : State) : (s.cancelAtLoggingStart).maintOffer = s.maintOffer := by simp [State.cancelAtLoggingStart]
@[simp] theorem State.cancelAtLoggingStart_link (s : State) : (s.cancelAtLoggingStart).link = s.link := by simp [State.cancelAtLoggingStart]

@[simp] theorem State.enterLogFault_pending (s : State) (i : StreamItem) (f : StreamItem → Bool) : (s.enterLogFault i f).pending = s.pending := by simp [State.enterLogFault]
@[simp] theorem State.enterLogFault_rstLow (s : State) (i : StreamItem) (f : StreamItem → Bool) : (s.enterLogFault i f).rstLow = s.rstLow := by simp [State.enterLogFault]
@[simp] theorem State.enterLogFault_regions (s : State) (i : StreamItem) (f : StreamItem → Bool) : (s.enterLogFault i f).regions = s.regions := by simp [State.enterLogFault]
@[simp] theorem State.enterLogFault_link (s : State) (i : StreamItem) (f : StreamItem → Bool) : (s.enterLogFault i f).link = s.link := by simp [State.enterLogFault]

end Sys2Proof.Machine
end

