-- ==== Sys2Proof/Laws/Walk.lean ====
section
/-! SUPPORT. What a walk over the waiting runs, a low-space comparison and a RECYCLE release can change. -/

namespace Sys2Proof.Machine

/-- `t` differs from `s` at most in what a walk (R63) or a low-space comparison (R12) may change: the window, the walk
owed, the run slots, the stream, the marks with the tail, the generation, the reservation, the indications, the events. -/
def WalkFrame (s t : State) : Prop :=
  t = { s with
    window := t.window
    capture := { s.capture with walkOwed := t.capture.walkOwed }
    staging := { s.staging with runSlots := t.staging.runSlots }
    stream := t.stream
    log := { s.log with
      marks := t.log.marks, tail := t.log.tail, generation := t.log.generation, reserved := t.log.reserved
      lowSpace := t.log.lowSpace, logFull := t.log.logFull }
    events := t.events }

theorem WalkFrame.refl (s : State) : WalkFrame s s := rfl

theorem WalkFrame.trans {s t u : State} (h₁ : WalkFrame s t) (h₂ : WalkFrame t u) : WalkFrame s u := by
  unfold WalkFrame at *
  generalize u.window = w, u.capture.walkOwed = o, u.staging.runSlots = r, u.stream = i, u.log.marks = m,
    u.log.tail = p, u.log.generation = g, u.log.reserved = v, u.log.lowSpace = l, u.log.logFull = f, u.events = e at *
  rw [h₂, h₁]

theorem State.compareLowSpace_walkFrame (s : State) : WalkFrame s s.compareLowSpace := by
  unfold State.compareLowSpace
  repeat' split
  all_goals rfl

theorem State.recycleRelease_walkFrame (s : State) : WalkFrame s s.recycleRelease :=
  WalkFrame.trans (WalkFrame.trans (t := s.dropMarks 1) rfl (State.compareLowSpace_walkFrame _)) rfl

theorem State.updateEntry_walkFrame (s : State) (r : Requester) (tag : Tag) (f : Entry → Entry) :
    WalkFrame s (s.updateEntry r tag f) := rfl

theorem State.modStaging_walkFrame (s : State) (f : List RunSlot → List RunSlot) :
    WalkFrame s (s.modStaging fun b => { b with runSlots := f b.runSlots }) := rfl

theorem State.modLog_walkFrame (s : State) (reserved : Nat) (full : Bool) :
    WalkFrame s (s.modLog fun l => { l with reserved := reserved, logFull := full }) := rfl

theorem State.grantRun_walkFrame (s : State) (e : Entry) (run : Run) : WalkFrame s (s.grantRun e run) := by
  unfold State.grantRun
  refine WalkFrame.trans ?_ (State.updateEntry_walkFrame _ _ _ _)
  refine WalkFrame.trans ?_ (State.modStaging_walkFrame _ fun slots => slots ++ [.run run.id])
  exact s.modLog_walkFrame _ false

theorem State.postLogFull_walkFrame (s : State) (e : Entry) (run : Run) : WalkFrame s (s.postLogFull e run) := by
  unfold State.postLogFull; split <;> rfl

theorem State.stallRun_walkFrame (s : State) (e : Entry) (run : Run) : WalkFrame s (s.stallRun e run) := by
  unfold State.stallRun
  split
  · exact s.postLogFull_walkFrame e run
  · exact WalkFrame.trans (s.postLogFull_walkFrame e run) (State.updateEntry_walkFrame _ _ _ _)

theorem State.requestSpace_walkFrame (s : State) (e : Entry) (run : Run) (releases : Nat) :
    WalkFrame s (s.requestSpace e run releases).1 := by
  induction releases generalizing s with
  | zero =>
    unfold State.requestSpace
    split
    · exact s.grantRun_walkFrame e run
    · exact s.stallRun_walkFrame e run
  | succ n ih =>
    unfold State.requestSpace
    split
    · exact s.grantRun_walkFrame e run
    · dsimp only
      split
      · exact WalkFrame.trans s.recycleRelease_walkFrame (ih _)
      · exact s.stallRun_walkFrame e run

theorem State.walkRuns_walkFrame (s : State) (requester : Requester) (tag : Tag) (runs : Nat) :
    WalkFrame s (s.walkRuns requester tag runs) := by
  induction runs generalizing s with
  | zero => exact .refl s
  | succ n ih =>
    unfold State.walkRuns
    split
    · exact .refl s
    · split
      · exact .refl s
      · split
        · exact .refl s
        · rename_i e _ _ run _
          have h := s.requestSpace_walkFrame e run s.log.marks.length
          split
          · rename_i t heq; rw [heq] at h; exact WalkFrame.trans h (ih t)
          · rename_i t heq; rw [heq] at h; exact h

/-- A walk keeps everything outside `WalkFrame`. -/
theorem State.walk_walkFrame (s : State) : WalkFrame s s.walk := by
  unfold State.walk
  split
  · generalize s.window.map (fun e => (e.requester, e.tag, e.runs.length)) = keys
    have h (t : State) : WalkFrame t (keys.foldl (fun s k => s.walkRuns k.1 k.2.1 k.2.2) t) := by
      induction keys generalizing t with
      | nil => exact .refl t
      | cons k rest ih => exact WalkFrame.trans (t.walkRuns_walkFrame k.1 k.2.1 k.2.2) (ih _)
    exact WalkFrame.trans (t := s.modCapture fun c => { c with walkOwed := false }) rfl (h _)
  · rfl

/-- The walk at a header write's persistence (R206) keeps everything outside `WalkFrame`. -/
theorem State.walkStalled_walkFrame (s : State) : WalkFrame s s.walkStalled := by
  unfold State.walkStalled
  split
  · exact s.walk_walkFrame
  · exact .refl s

end Sys2Proof.Machine
end

