-- ==== Sys2Proof/WellFormed.lean ====
section
/-! DEFINITION. Well-formed commands: what a command's operands must satisfy for the outside to be able to send it. -/

namespace Sys2Proof

/-- The data of an OKAY response to a READ have a length that a request of that kind can have (R148, R149). -/
def MemResponse.fits (r : MemResponse) (lengths : List Nat) : Bool :=
  match r with
  | .okay data => lengths.contains data.length
  | .error => true

/-- Lengths of a capture read (R64, R148). -/
def captureReadLengths : List Nat := [32, 64, 96, 128]

/-- Lengths of a rollback record read: 16 times a back length, which a record header can give as up to 15 (R110,
R200). -/
def recordReadLengths : List Nat := (List.range 15).map fun k => 16 * (k + 1)

/-- Lengths of a walk's record read (R136, R148). -/
def walkRecordLengths : List Nat := [48, 80, 112, 144]

/-- Data lengths of a response to a host access: none for a WRITE, the span for a READ (R88, R149). -/
def hostAccessLengths : List Nat := (List.range 9).map fun k => 16 * k

/-- Data lengths of a response to any request (R148). -/
def anyResponseLengths : List Nat := (List.range 17).map fun k => 16 * k

/-- A command the outside can send. The operands of the link commands are raw argument bytes, all of which a frame can
carry. -/
def WellFormed : Instr → Bool
  | .captureReadResponse r => r.fits captureReadLengths
  | .abandonedReadReturn r => r.fits captureReadLengths
  | .rollbackRecordReadResponse r => r.fits recordReadLengths
  | .attachHeaderReadResponse r => r.fits [256]
  | .walkHeaderReadResponse r => r.fits [16]
  | .walkRecordReadResponse r => r.fits walkRecordLengths
  | .hostAccessResponse r => r.fits hostAccessLengths
  | .orphanResponse r => r.fits anyResponseLengths
  | .strayResponse r => r.fits anyResponseLengths
  | .frameDiscard bits => Machine.judgeFrame bits == .discarded
  | .powerOn => true
  | .rst _ => true
  | .hostRequestAccept _ => true
  | .captureDecision => true
  | .captureWalk => true
  | .headerWritePlacement => true
  | .memoryGrant => true
  | .recordWriteResponse _ => true
  | .headerWriteResponse _ => true
  | .discardedItemResponse _ => true
  | .checkpointBoundary => true
  | .quiesceComplete => true
  | .restoreWriteResponse _ => true
  | .formatCopyWriteResponse _ => true
  | .detachComplete => true
  | .responseDelivery => true
  | .holdTimeout => true
  | .epochTimer => true
  | .ckptStrobe => true
  | .faultStrobe => true
  | .nop => true
  | .readStatus => true
  | .setRegion _ _ _ _ _ => true
  | .clearRegion _ => true
  | .readRegion _ => true
  | .setLog _ _ => true
  | .format => true
  | .attach => true
  | .detach => true
  | .checkpoint => true
  | .release _ => true
  | .discard => true
  | .rollback _ => true
  | .halt => true
  | .resume => true
  | .freeze => true
  | .thaw => true
  | .setPolicy _ _ _ _ _ _ _ => true
  | .readPolicy => true
  | .readMark _ => true
  | .popEvent => true
  | .clearSummary => true
  | .restart => true
  | .tick => true

end Sys2Proof
end

