-- ==== Sys2Proof/Tests/Slice0.lean ====
section
/-! SUPPORT. Tests: ill-formed commands, the check codes and layouts of the Formats chapter, one step of each command against
the worked sequences of the manual, and a witness for the hypotheses of each statement. Expected values come from the manual;
the docstring of a test names the sequence. -/

namespace Sys2Proof.Tests

-- One theorem at a time: many `decide` proofs at once would each hold a thread.
set_option Elab.async false

open Sys2Proof Sys2Proof.Machine

/-! ## Helpers -/

/-- The state after a command completes. -/
def after (c : Instr) (s : State) : State :=
  match exec c s with
  | .next t => t
  | .fault _ => s
  | .refused _ => s

/-- The response status left by a command. -/
def statusOf (c : Instr) (s : State) : Status := (after c s).link.response.status

/-- The state with another Log Controller, built from the reset values. -/
def withLog (l : LogController) : State := { State.reset with log := l }

/-- A log area of a size at 0800 0000h. -/
def area (size : Nat) : Option LogArea := some { base := 0x08000000, size := size }

/-- A mark of an epoch at a ring offset. -/
def mark (epoch firstSeq : Num) (offset back : Nat) (duration : Num := 0) : Mark :=
  { epoch := epoch, firstSeq := firstSeq, offset := offset, back := back, duration := duration, recovered := false }

/-- A window entry of a LOGGED region with write mask 15. -/
def entry (requester : Requester) (tag : Tag) (kind : AccessKind) (granules : List Num) (epoch : Num) (phase : Phase)
    (runs : List Run := []) (hit own : Option Num := none) : Entry :=
  { requester := requester, tag := tag, kind := kind, address := granules.headD 0, length := 32 * granules.length,
    payload := [], granules := granules, snapshot := some { index := 2, mode := .logged, mask := 15 }, epoch := epoch,
    phase := phase, waits := { hit := hit, own := own }, runs := runs }

/-- The same entry outside every region. -/
def unlogged (e : Entry) : Entry := { e with snapshot := none }

/-- A run. -/
def run (id : Nat) (first : Num) (count : Nat) (condition : RunCondition) : Run :=
  { id := id, first := first, count := count, condition := condition }

/-- A data record of an epoch, its data zero. -/
def record (seq epoch : Num) (position count back : Nat) : Record :=
  { header := { seq := seq, epoch := epoch, first := 0x20000000, back := back, count := count, poison := false,
                requester := 0, kind := .data, check := 0 }
    data := List.replicate (32 * count) 0, position := position, length := recordLength count }

/-- A record in the stream. -/
def streamed (r : Record) (issued : Bool) : StreamItem := { body := .record r, issued := issued }

/-- A header write in the stream, of a generation. -/
def headerItem (l : LogController) (purpose : HeaderPurpose) (generation : Num) (issued : Bool) : StreamItem :=
  { body := .header purpose (l.headerCopy generation), issued := issued }

/-- An outstanding request. -/
def out (claimant : Claimant) (owner : Owner) (kind : AccessKind) (length : Nat) : Outstanding :=
  { claimant := claimant, owner := owner, orphan := false
    request := { kind := kind, address := 0, length := length, enables := none, data := [] } }

/-- An orphan of a reset. -/
def orphanRead : Outstanding := { out .host .gone .read 32 with orphan := true }

/-! ## Ill-formed commands -/

theorem test_wf_capture_read_length : WellFormed (.captureReadResponse (.okay [0])) = false := by decide
theorem test_wf_abandoned_read_length : WellFormed (.abandonedReadReturn (.okay (List.replicate 16 0))) = false := by decide
theorem test_wf_record_read_length : WellFormed (.rollbackRecordReadResponse (.okay [])) = false := by decide
theorem test_wf_attach_header_length : WellFormed (.attachHeaderReadResponse (.okay (List.replicate 255 0))) = false := by
  decide +kernel
theorem test_wf_walk_header_length : WellFormed (.walkHeaderReadResponse (.okay (List.replicate 15 0))) = false := by decide
theorem test_wf_walk_record_length : WellFormed (.walkRecordReadResponse (.okay (List.replicate 16 0))) = false := by decide
theorem test_wf_host_access_length : WellFormed (.hostAccessResponse (.okay [0])) = false := by decide
theorem test_wf_orphan_length : WellFormed (.orphanResponse (.okay [0])) = false := by decide
theorem test_wf_stray_length : WellFormed (.strayResponse (.okay [0])) = false := by decide
theorem test_wf_frame_not_discarded : WellFormed (.frameDiscard []) = false := by decide

/-! ## Formats -/

/-- The nine characters 1 to 9 of R205's check values. -/
def digits : List Byte := [0x31, 0x32, 0x33, 0x34, 0x35, 0x36, 0x37, 0x38, 0x39]

/-- R205. -/
theorem test_crc16_check_value : crc16 digits = 0x29B1 := by decide +kernel
/-- R205. -/
theorem test_crc32_check_value : crc32 digits = 0xFC891918 := by decide +kernel
/-- R205. -/
theorem test_crc8_check_value : crc8 digits = 0xF4 := by decide +kernel

/-- R200, the header of a poisoned record: record 301 of 2 granules. Its check code over bytes 0 to 13 and 64 zero data
bytes, worked out outside Lean from R205, is 5811h. -/
def poisoned301 : RecordHeader :=
  { seq := 301, epoch := 7, first := 0x20000840, back := 3, count := 2, poison := true, requester := 1, kind := .data,
    check := 0x5811 }

/-- The sixteen bytes of the example. -/
def poisonedBytes : List Byte :=
  [0x2D, 0x01, 0, 0, 0x07, 0, 0, 0, 0x40, 0x08, 0x00, 0x20, 0xA3, 0x11, 0x11, 0x58]

theorem test_record_header_bytes : headerBytes poisoned301 = poisonedBytes := by decide
theorem test_record_header_reads_back : parseHeader poisonedBytes = poisoned301 := by decide
/-- R202, R203: NOP is number 01h with no arguments; its CRC-8 is 15h. -/
theorem test_frame_nop : decodeFrame [0x01, 0x00, 0x15] = some .nop := by decide +kernel
/-- R202, R203: SET_REGION is number 11h, its 11 argument bytes in the order of R187. -/
theorem test_frame_set_region :
    decodeFrame [0x11, 11, 2, 0x30, 0, 0, 0, 0, 1, 0, 0, 1, 3, 0x1B] =
      some (.setRegion 2 0x30000000 0x10000 1 3) := by decide +kernel
/-- R202: a frame of three zero bytes is not taken, although its CRC-8 is right. -/
theorem test_frame_zeros_discarded : judgeFrame (List.replicate 24 false) = .discarded := by decide +kernel
theorem test_decode_table_word : decodeTableWord 16 0 = none := by decide

/-! ## Chapter 1: a wrap near the ring end -/

/-- The policies of the example: threshold 90, WAIT. -/
def policy90 : Policy := { resetPolicy with threshold := 90 }

/-- Log Controller of the example before its first happening, with the marks at 640 and 4 640. -/
def wrapLog : LogController :=
  { resetLog with
    engine := .armed, area := area 16384, marks := [mark 3 10 640 3, mark 4 40 4640 3], tail := 640, writePos := 15808,
    durableHead := 15808, lastLength := 3, nextSeq := 57, nextEpoch := 5, lowSpace := true, policy := policy90 }

/-- The two-granule write of happening 1, its run waiting. -/
def wrapWaiting : State :=
  { withLog wrapLog with
    capture := { set := [], nextRunId := 1, walkOwed := true }
    window := [entry 0 0 .write [0x20000000, 0x20000020] 4 .capturing [run 0 0x20000000 2 .pending]] }

/-- The run's capture read issued. -/
def wrapReading : State :=
  { withLog { wrapLog with reserved := 144 } with
    capture := { set := [], nextRunId := 1, walkOwed := false }
    window := [entry 0 0 .write [0x20000000, 0x20000020] 4 .capturing [run 0 0x20000000 2 (.reading true)]]
    staging := { runSlots := [.run 0], filler := none }
    port := { outstanding := [out .capture (.capture 0) .read 64], bypass := 0 } }

/-- Happening 4: the third four-granule run of charge 272. -/
def wrapFull : State :=
  { withLog { wrapLog with writePos := 368 } with
    capture := { set := [], nextRunId := 1, walkOwed := true }
    window := [entry 0 0 .write [0x20000000, 0x20000020, 0x20000040, 0x20000060] 4 .capturing
      [run 0 0x20000000 4 .pending]] }

/-- Happening 6: the run held, its used space 15 712. -/
def wrapHeld : State :=
  { withLog { wrapLog with writePos := 480, logFull := true } with
    window := [entry 0 0 .write [0x20000000, 0x20000020, 0x20000040, 0x20000060] 4 (.held .space ⟨0, 0⟩)
      [run 0 0x20000000 4 .stalled]] }

/-- Happening 1: the request is granted and 144 reserved. Happening 4: the third request is refused, LOG_FULL posted with
272. -/
theorem test_walk_grants_and_stalls :
    ((after .captureWalk wrapWaiting).log.reserved, (after .captureWalk wrapWaiting).staging.runSlots) = (144, [.run 0]) ∧
      (after .captureWalk wrapFull).log.logFull = true ∧
      (after .captureWalk wrapFull).events.queue.map Event.detail = [.number 272] := by decide +kernel
/-- Happening 2: the filler 57 at 15 808 and the data record 58 at 0. -/
theorem test_capture_read_wraps :
    let t := after (.captureReadResponse (.okay (List.replicate 64 7))) wrapReading
    ((streamRecords t.stream).map fun r => (r.header.seq, r.position, r.length, r.header.back)) =
      [(57, 15808, 64, 3), (58, 0, 80, 4)] ∧
    (t.log.writePos, t.log.lastLength, t.log.nextSeq, t.log.reserved, t.log.usedSpace) =
      (80, 5, 59, 0, 15312) := by decide +kernel
/-- Happening 6: RELEASE 1 moves the tail to 4 640, clears the low-space indication and lets the held run capture. -/
theorem test_release :
    let t := after (.release 1) wrapHeld
    (t.log.tail, t.log.usedSpace, t.log.lowSpace, t.log.reserved, t.log.engine) = (4640, 11712, false, 272, .updating) ∧
      t.window.map Entry.phase = [.capturing] := by decide +kernel

/-! ## Chapter 2: a checkpoint with a capture in flight -/

/-- Log Controller before the first happening. -/
def checkpointLog : LogController :=
  { resetLog with
    engine := .armed, area := area 16384, marks := [mark 3 23 1024 3 15004, mark 4 43 2048 5], tail := 1024,
    writePos := 2800, durableHead := 2800, lastLength := 5, nextSeq := 58, nextEpoch := 5, generation := 11,
    reserved := 144, timer := { stoppedTimer with counter := 9730 } }

/-- Log Controller in CHECKPOINTING, epoch 5 reserved. -/
def checkpointingLog : LogController :=
  { checkpointLog with engine := .checkpointing, reservedEpoch := some 5, nextEpoch := 6 }

/-- Happening 3: the read of W3, tagged with the reserved epoch, returns before the boundary. -/
def deferring : State :=
  { withLog checkpointingLog with
    window := [entry 3 0 .write [0x10003000] 5 .capturing [run 1 0x10003000 1 (.reading true)]]
    staging := { runSlots := [.run 1], filler := none }
    port := { outstanding := [out .capture (.capture 1) .read 32], bypass := 0 } }

/-- The state in which the boundary falls due: W1 committed, W3 deferred, record 58 in the stream. -/
def boundaryState : State :=
  { withLog { checkpointingLog with
      writePos := 2880, nextSeq := 59, reserved := 80, timer := { stoppedTimer with counter := 9812 } } with
    window :=
      [entry 0 0 .write [0x10000040, 0x10000060] 4 .awaitRecord [] none (some 58),
       entry 1 0 .write [0x10002000] 4 .ordered,
       entry 3 0 .write [0x10003000] 5 .capturing [run 1 0x10003000 1 (.deferred false (List.replicate 32 9))]]
    capture := { set := [⟨0x10000000, 55⟩, ⟨0x10003000, 57⟩, ⟨0x10000040, 58⟩, ⟨0x10000060, 58⟩], nextRunId := 2,
                 walkOwed := false }
    staging := { runSlots := [.record 58, .run 1], filler := none }
    stream := [streamed (record 58 4 2800 2 5) true] }

/-- The checkpoint header write alone in the stream, issued. -/
def checkpointEnds : State :=
  { withLog { checkpointingLog with marks := [mark 4 43 2048 5, mark 5 59 2880 5], reservedEpoch := none } with
    stream := [headerItem checkpointingLog .checkpoint 12 true]
    port := { outstanding := [out .log (.header 12) .write 256], bypass := 0 } }

/-- Happening 1: a CKPT strobe in ARMED is accepted: epoch 5 reserved, next epoch 6. -/
theorem test_ckpt_strobe :
    let t := after .ckptStrobe (withLog checkpointLog)
    (t.log.engine, t.log.reservedEpoch, t.log.nextEpoch) = (.checkpointing, some 5, 6) := by decide
theorem test_checkpoint : statusOf .checkpoint (withLog checkpointLog) = .started := by decide
/-- Happening 3: no record is created, and the old data stay with the run. -/
theorem test_capture_read_deferred :
    let t := after (.captureReadResponse (.okay (List.replicate 32 9))) deferring
    t.stream = [] ∧ t.window.flatMap (fun e => e.runs.map Run.isDeferred) = [true] := by decide +kernel
/-- Happening 4, the table after the boundary. -/
theorem test_boundary :
    let t := after .checkpointBoundary boundaryState
    t.log.marks = [mark 3 23 1024 3 15004, mark 4 43 2048 5 9812, mark 5 59 2880 5] ∧
      t.capture.set = [⟨0x10003000, 59⟩] ∧ t.window.map Entry.epoch = [4, 5, 5] ∧
      t.window.map Entry.phase = [.awaitRecord, .ordered, .awaitRecord] := by decide +kernel
theorem test_boundary_log :
    let t := after .checkpointBoundary boundaryState
    (t.log.writePos, t.log.lastLength, t.log.nextSeq, t.log.reserved, t.log.usedSpace, t.log.generation,
      t.log.timer.counter) = (2928, 3, 60, 0, 1904, 12, 0) ∧
      t.stream.map StreamItem.isHeader = [false, true, false] := by decide +kernel
/-- R36: before the boundary a write tagged with the reserved epoch treats a granule of the Capture Set as a miss. -/
theorem test_decision_misses_before_boundary :
    let s := { withLog checkpointingLog with
      window := [entry 3 0 .write [0x10003000] 5 .ordered]
      capture := { set := [⟨0x10003000, 57⟩], nextRunId := 0, walkOwed := false } }
    (after .captureDecision s).window.map Entry.phase = [.capturing] := by decide +kernel

/-! ## Chapter 3: two runs, a poisoned read and a hit on an unpersisted record -/

/-- Log Controller of the sequence. -/
def twoRunsLog : LogController :=
  { resetLog with
    engine := .armed, area := area 32768, marks := [mark 7 200 0 3], writePos := 6000, durableHead := 5952,
    lastLength := 3, nextSeq := 300, nextEpoch := 8 }

/-- Happenings 1 and 2: W5 and W6 are to make their decisions. -/
def twoRuns (w5 w6 : Phase) : State :=
  { withLog twoRunsLog with
    window :=
      [entry 1 0 .write [0x20000800, 0x20000820, 0x20000840, 0x20000860] 7 w5,
       entry 2 0 .write [0x20004000, 0x20004020] 7 w6]
    capture := { set := [⟨0x20001000, 240⟩, ⟨0x20000820, 296⟩, ⟨0x20004000, 299⟩], nextRunId := 0, walkOwed := false }
    staging := { runSlots := [.record 299], filler := none }
    stream := [streamed (record 299 7 5952 1 3) true] }

/-- Happening 4: run B's read is about to answer ERROR, the Capture Set holding 63 entries. -/
def poisonState : State :=
  { withLog { twoRunsLog with writePos := 6048, nextSeq := 301, reserved := 224 } with
    window := [entry 1 0 .write [0x20000800, 0x20000820, 0x20000840, 0x20000860] 7 .capturing
      [run 0 0x20000800 1 .recorded, run 1 0x20000840 2 (.reading true)] none (some 300)]
    capture := { set := ⟨0x20001000, 240⟩ :: (List.range 62).map fun k => ⟨0x20008000 + BitVec.ofNat 32 (32 * k), 250⟩,
                 nextRunId := 3, walkOwed := false }
    staging := { runSlots := [.record 299, .record 300, .run 1], filler := none }
    port := { outstanding := [out .capture (.capture 1) .read 64], bypass := 0 } }

/-- Happening 6: record 299 persists; W6 waits for it and for 302. -/
def persisting : State :=
  { withLog { twoRunsLog with writePos := 6176 } with
    window := [entry 2 0 .write [0x20004000, 0x20004020] 7 .awaitRecord [] (some 299) (some 302)]
    staging := { runSlots := [.record 299], filler := none }
    stream := [streamed (record 299 7 5952 1 3) true]
    port := { outstanding := [out .log (.record 299) .write 48], bypass := 0 } }

/-- Happening 1: runs A of one granule and B of two. -/
theorem test_decision_forms_runs :
    let t := after .captureDecision (twoRuns .ordered .ordered)
    (t.window.flatMap fun e => e.runs.map fun r => (r.first, r.count)) = [(0x20000800, 1), (0x20000840, 2)] ∧
      t.window.map Entry.phase = [.capturing, .ordered] := by decide +kernel
/-- Happening 2: W6's hit wait is 299. -/
theorem test_decision_hit_wait :
    let t := after .captureDecision (twoRuns .capturing .ordered)
    (t.window.map fun e => e.waits.hit) = [none, some 299] := by decide +kernel
/-- Happening 4: record 301 poisoned at 6 048, the oldest Capture Set entry replaced. -/
theorem test_capture_read_poisons :
    let t := after (.captureReadResponse .error) poisonState
    (t.log.writePos, t.log.lastLength, t.log.nextSeq, t.log.reserved) = (6128, 5, 302, 80) ∧
      t.capture.set.length = 64 ∧ t.lookupCapture 0x20001000 = none ∧
      (t.window.map fun e => (e.phase, e.waits.own)) = [(.awaitRecord, some 301)] ∧
      t.events.queue = [{ kind := .poisonCaptured, epoch := 7, address := some 0x20000840, requester := some 1,
                          detail := .number 301 }] := by decide +kernel
/-- Happening 6: durable head 6 000, W6 left with its own wait. -/
theorem test_record_write_response :
    let t := after (.recordWriteResponse .okay) persisting
    t.log.durableHead = 6000 ∧ (t.window.map fun e => (e.phase, e.waits.hit, e.waits.own)) =
      [(.awaitRecord, none, some 302)] ∧ t.staging.runSlots = [] := by decide +kernel

/-! ## Chapter 4: ordering, permission and delivery -/

/-- The two regions of the sequence, the window empty, the last-served requester 1. -/
def hostState : State :=
  { withLog { twoRunsLog with marks := [mark 9 1 0 0], policy := { resetPolicy with holdLimit := 400 } } with
    host := { channel := [], offered := none, lastServed := 1 }
    regions := (State.reset.regions.set 2
      { valid := true, base := 0x30000000, size := 65536, mode := .logged, mask := 3 }).set 5
      { valid := true, base := 0x40000000, size := 16384, mode := .pass, mask := 15 } }

/-- Happening 1's request: requester 0, tag 4, 64 bytes at 3000 0100h. -/
def request1 : HostRequest :=
  { requester := 0, tag := 4, address := 0x30000100, op := .write (List.replicate 64 (true, 7)) }

/-- Happening 2's request: requester 2, tag 1, 8 bytes at 3000 0120h. -/
def request2 : HostRequest :=
  { requester := 2, tag := 1, address := 0x30000120, op := .write (List.replicate 8 (true, 7)) }

/-- Entries E1, E2, E3 and E4 before happening 5. -/
def deliveryState : State :=
  { hostState with
    host := { channel := [], offered := some 2, lastServed := 1 }
    window :=
      [entry 0 4 .write [0x30000100, 0x30000120] 9 .capturing [run 0 0x30000100 2 (.reading true)],
       { entry 2 1 .write [0x30000120] 9 (.done .refused []) with length := 8 },
       { entry 1 0 .read [0x30000100, 0x30000120] 9 .ordered with address := 0x30000110, length := 32 },
       { unlogged (entry 0 5 .read [0x40000000] 9 .issued) with address := 0x40000004, length := 4 }]
    port := { outstanding := [out .host (.host 0 5) .read 16], bypass := 0 } }

/-- E5 HELD for FREEZE with limit 400, at an elapsed count. -/
def heldState (elapsed : Nat) : State :=
  { hostState with
    log := { hostState.log with freeze := true }
    window := [entry 1 2 .write [0x30000200] 9 (.held .freeze ⟨elapsed, 400⟩)] }

/-- Happening 1: the entry's granules, tag and snapshot. -/
theorem test_host_request_accepted :
    let t := after (.hostRequestAccept (some request1)) hostState
    (t.window.map fun e => (e.granules, e.epoch, e.phase)) = [([0x30000100, 0x30000120], 9, .ordered)] ∧
      (t.window.map fun e => e.snapshot) = [some { index := 2, mode := .logged, mask := 3 }] := by decide +kernel
/-- Happening 2: no permission. -/
theorem test_host_request_refused :
    let t := after (.hostRequestAccept (some request2)) hostState
    t.window.map Entry.phase = [.done .refused []] ∧ t.host.offered = some 2 ∧
      t.events.queue = [{ kind := .refused, epoch := 9, address := some 0x30000120, requester := some 2,
                          detail := .refusal .permission }] := by decide +kernel
/-- Happening 3: E3 stays in ORDERED behind E1. -/
theorem test_decision_hazard : after .captureDecision deliveryState = deliveryState := by decide +kernel
/-- Happening 5: E2 leaves, the last-served becomes 2, and nothing is deliverable. -/
theorem test_response_delivery :
    let t := after .responseDelivery deliveryState
    (t.window.length, t.host.lastServed, t.host.offered) = (3, 2, none) := by decide +kernel
/-- Happening 6: the four bytes from 4000 0004h; E4 is not deliverable behind E1. -/
theorem test_host_access_response :
    let t := after (.hostAccessResponse (.okay ((List.range 16).map fun k => BitVec.ofNat 8 k))) deliveryState
    (t.window.getLast?.map Entry.phase) = some (.done .okay [4, 5, 6, 7]) ∧ t.deliverable 0 = false := by decide +kernel
/-- A THAW at 250 µs: E5 returns to ORDERED. -/
theorem test_thaw : (after .thaw (heldState 250)).window.map Entry.phase = [.ordered] := by decide +kernel
/-- The 400th tick makes the expiry due, and E5 is refused. -/
theorem test_hold_timeout :
    (after .holdTimeout (after .tick (heldState 399))).window.map Entry.phase = [.done .refused []] := by decide +kernel
theorem test_hold_not_due : after .holdTimeout (heldState 399) = heldState 399 := by decide +kernel
/-- R54, R94: with the freeze flag set a logged write goes to HELD, its limit the hold limit in force. -/
theorem test_decision_freeze :
    let s := { hostState with
      log := { hostState.log with freeze := true }, window := [entry 1 2 .write [0x30000200] 9 .ordered] }
    (after .captureDecision s).window.map Entry.phase = [.held .freeze ⟨0, 400⟩] := by decide +kernel

/-! ## Chapter 5: a rollback with a poisoned record, a restore error and a halt -/

/-- Log Controller before the rollback. -/
def rollbackLog : LogController :=
  { resetLog with
    engine := .armed, freeze := true, area := area 65536,
    marks := [mark 11 393 7600 3 21400, mark 12 400 8000 5 19950, mark 13 404 8224 3], tail := 7600, durableHead := 8384,
    writePos := 8464, lastLength := 5, nextSeq := 407, nextEpoch := 14, reserved := 80 }

/-- The state before happening 1. -/
def rollbackState : State :=
  { withLog rollbackLog with
    window :=
      [entry 0 0 .write [0x30000000] 13 .awaitRecord [] none (some 406),
       entry 1 0 .write [0x30001000] 13 .capturing [run 2 0x30001000 1 (.reading true)],
       entry 2 0 .read [0x30002000] 13 .ready,
       unlogged (entry 3 0 .read [0x50000000] 13 .issued),
       entry 1 1 .write [0x30003000] 13 (.held .freeze ⟨0, 0⟩)]
    staging := { runSlots := [.record 406, .run 2], filler := none }
    stream := [streamed (record 406 13 8384 2 3) true] }

/-- The replay of the sequence at a position. -/
def replayAt (position back : Nat) (span bound : Num) (last : Option Num) (progress : ReplayProgress)
    (halt : Bool := false) : Replay :=
  { position := position, back := back, span := span, bound := bound, lastApplied := last, progress := progress,
    haltRequested := halt }

/-- ROLLING_BACK or HALTED to epoch 12 with a replay and an applied count, a maintenance request outstanding. -/
def replayState (engine : EngineState) (replay : Replay) (applied : Nat) (outstanding : List Outstanding) : State :=
  { withLog { rollbackLog with
      engine := engine, reserved := 0, durableHead := replay.position, writePos := replay.position,
      lastLength := replay.back } with
    rollback := some { target := 12, applied := applied, replay := some replay }
    port := { outstanding := outstanding, bypass := 0 } }

/-- The header of record 403. -/
def header403 : RecordHeader :=
  { seq := 403, epoch := 12, first := 0x30000000, back := 3, count := 1, poison := false, requester := 0, kind := .data,
    check := 0 }

/-- QUIESCING with everything flushed, before ROLLING_BACK. -/
def quiesced : State :=
  { withLog { rollbackLog with engine := .quiescing, durableHead := 8464, reserved := 0 } with
    rollback := some { target := 12, applied := 0, replay := none } }

/-- Happening 9: record 403 being restored, the halt asked for. -/
def haltingState : State :=
  replayState .rollingBack (replayAt 8224 3 12 404 none (.restoring header403 8176) true) 3
    [out .maint (.maint .restoreWrite) .write 32]

/-- Happening 1: the window after ROLLBACK depth 1. -/
theorem test_rollback :
    let t := after (.rollback 1) rollbackState
    (t.log.engine, t.log.reserved, t.rollback.map RollbackCursor.target) = (.quiescing, 0, some 12) ∧
      t.window.map Entry.phase =
        [.awaitRecord, .done .refused [], .held .rollback ⟨0, 0⟩, .issued, .done .refused []] := by decide +kernel
/-- Happening 1: W2 and W5 are reported in this order; record 406 and W2's abandoned read hold two slots. -/
theorem test_rollback_events :
    let t := after (.rollback 1) rollbackState
    (t.events.queue.map fun e => (e.address, e.detail)) =
      [(some 0x30001000, .refusal .cancelled), (some 0x30003000, .refusal .cancelled)] ∧
      t.stagingOccupancy = 2 := by decide +kernel
/-- Happening 2: the abandoned read returns and its slot is freed. -/
theorem test_abandoned_read_return :
    let s := { rollbackState with
      window := [entry 1 0 .write [0x30001000] 13 (.done .refused []) [run 2 0x30001000 1 .abandoned]]
      port := { outstanding := [out .capture (.capture 2) .read 32], bypass := 0 } }
    (after (.abandonedReadReturn (.okay (List.replicate 32 0))) s).staging.runSlots = [.record 406] := by decide +kernel
/-- Happening 4: the cursor at 8 464, back length 5, span mark 13, bound 407; record 406 is read at 8 384. -/
theorem test_quiesce_complete :
    let t := after .quiesceComplete quiesced
    t.rollback = some { target := 12, applied := 0,
                        replay := some (replayAt 8464 5 13 407 none (.reading 8384 80)) } ∧
      t.maintOffer = some ⟨.recordRead, readRequest (0x08000000 + 512 + 8384) 80⟩ := by decide +kernel
/-- R109: with no record in epochs 13 and 12 the replay completes at mark 12, which the cursor then names, with mark 13's
first sequence as the bound and no last applied. -/
theorem test_quiesce_crosses :
    let s := { quiesced with log := { quiesced.log with
      durableHead := 8224, marks := [mark 11 393 7600 3 21400, mark 12 404 8224 3, mark 13 404 8224 3] } }
    (after .quiesceComplete s).rollback =
      some { target := 12, applied := 0, replay := some (replayAt 8224 5 12 404 none .completing) } := by decide +kernel
/-- Happening 7: record 404 restored with ERROR; position 8 224 is mark 13's offset, so the span mark becomes 12, the bound
404, and record 403 at 8 176 is read. -/
theorem test_restore_write_error :
    let s := replayState .rollingBack (replayAt 8336 7 13 407 (some 405)
      (.restoring { header403 with seq := 404, epoch := 13, count := 3 } 8224)) 2 [out .maint (.maint .restoreWrite) .write 96]
    let t := after (.restoreWriteResponse .error) s
    t.rollback = some { target := 12, applied := 3,
                        replay := some (replayAt 8224 3 12 404 none (.reading 8176 48)) } ∧
      (t.events.queue.map fun e => (e.kind, e.detail)) = [(.restoreError, .number 404)] := by decide +kernel
/-- Happening 9: the halt after record 403: applied count 4, used space 576. -/
theorem test_restore_write_halts :
    let t := after (.restoreWriteResponse .okay) haltingState
    (t.log.engine, t.log.usedSpace) = (.halted, 576) ∧
      t.rollback = some { target := 12, applied := 4, replay := some (replayAt 8176 3 12 404 (some 403) .between) } ∧
      (t.events.queue.map fun e => (e.kind, e.detail)) = [(.rollbackHalted, .number 4)] := by decide +kernel
theorem test_halt :
    let s := replayState .rollingBack (replayAt 8224 3 12 404 none (.restoring header403 8176)) 3 []
    (after .halt s).rollback = haltingState.rollback := by decide +kernel
/-- Happening 10: RESUME reads record 402 at 8 128. -/
theorem test_resume :
    let s := replayState .halted (replayAt 8176 3 12 404 (some 403) .between) 4 []
    (after .resume s).maintOffer = some ⟨.recordRead, readRequest (0x08000000 + 512 + 8128) 48⟩ := by decide +kernel
/-- Happening 11: record 401's read answers ERROR; nothing moves. -/
theorem test_rollback_read_error :
    let s := replayState .rollingBack (replayAt 8128 5 12 404 (some 402) (.reading 8048 80)) 5
      [out .maint (.maint .recordRead) .read 80]
    let t := after (.rollbackRecordReadResponse .error) s
    t.log.engine = .halted ∧
      t.rollback = some { target := 12, applied := 5, replay := some (replayAt 8128 5 12 404 (some 402) .between) } ∧
      (t.events.queue.map fun e => (e.address, e.detail)) = [(some (0x08000000 + 512 + 8048), .bad .read)] := by
  decide +kernel
/-- R111, R200: a header of zeros fails the form check. -/
theorem test_rollback_read_zeros :
    let s := replayState .rollingBack (replayAt 8464 5 13 407 none (.reading 8384 80)) 0
      [out .maint (.maint .recordRead) .read 80]
    (after (.rollbackRecordReadResponse (.okay (List.replicate 80 0))) s).events.queue.map Event.detail =
      [.bad .form] := by decide +kernel
/-- Happening 13: the table after the completion step. -/
theorem test_rollback_completes :
    let s := replayState .rollingBack (replayAt 8048 3 12 404 (some 401) (.restoring { header403 with seq := 400, back := 5 }
      8000)) 6 [out .maint (.maint .restoreWrite) .write 32]
    let t := after (.restoreWriteResponse .okay) s
    t.log.marks = [mark 11 393 7600 3 21400, mark 12 407 8000 5] ∧
      (t.log.durableHead, t.log.writePos, t.log.lastLength) = (8000, 8000, 5) ∧
      t.stream.map StreamItem.isHeader = [true] := by decide +kernel

/-! ## Chapter 6: attach after a torn checkpoint header -/

/-- SCANNING with the log area set and a scan cursor. -/
def scanning (c : ScanCursor) (outstanding : List Outstanding) : State :=
  { withLog { resetLog with engine := .scanning, area := area 16384 } with
    scan := some c, port := { outstanding := outstanding, bypass := 0 } }

/-- Copy A of the sequence: generation 41, next epoch 23, next sequence 112. -/
def copyA : HeaderCopy :=
  { format := 1, generation := 41, ringSize := 15872, nextEpoch := 23, nextSeq := 112,
    marks := [mark 21 103 1008 3 30000, mark 22 112 1568 5], check := 0 }

/-- The cursor after record 115, and record 116's header as examined. -/
def tornCursor (examined : Option RecordHeader) : ScanCursor :=
  { step := .walk, copyA := none, chosen := some copyA
    working := [mark 21 103 1008 3 30000, mark 22 112 1568 5, { mark 23 114 1696 3 with recovered := true }]
    workingTail := 1008, position := 1856, expected := 116, lastLength := 3, found := 4, highest := 23,
    examined := examined }

/-- The header of record 116, of 48 bytes; its stored check code is of the untorn record. -/
def header116 : RecordHeader :=
  { seq := 116, epoch := 23, first := 0x20000000, back := 3, count := 1, poison := false, requester := 0, kind := .data,
    check := 0 }

/-- The header read of record 116 outstanding. -/
def walkState : State := scanning (tornCursor none) [out .maint (.maint .walkHeader) .read 16]

/-- Attach completed, its header write issued. -/
def attachEnds : State :=
  { withLog { resetLog with
      engine := .scanning, area := area 16384, marks := (tornCursor none).working, tail := 1008, writePos := 1856,
      durableHead := 1856, lastLength := 3, nextSeq := 116, nextEpoch := 24, generation := 42 } with
    scan := some { tornCursor none with step := .complete }
    stream := [headerItem resetLog .attach 42 true]
    port := { outstanding := [out .log (.header 42) .write 256], bypass := 0 } }

/-- R134: copy A is read first. -/
theorem test_attach :
    let t := after .attach (withLog { resetLog with area := area 16384 })
    t.log.engine = .scanning ∧ t.maintOffer = some ⟨.attachHeader .a, readRequest 0x08000000 256⟩ := by decide +kernel
/-- R135, R141: with no valid copy the attach fails with NO_LOG. -/
theorem test_attach_no_log :
    let s := scanning openScan [out .maint (.maint (.attachHeader .b)) .read 256]
    let t := after (.attachHeaderReadResponse .error) s
    t.log.engine = .detached ∧ (t.events.queue.map fun e => (e.address, e.detail)) =
      [(some 0x08000100, .attachFailure .read)] := by decide +kernel
/-- The row of position 1 856: the header tests pass, and the whole record is read. -/
theorem test_walk_header :
    (after (.walkHeaderReadResponse (.okay (headerBytes header116))) walkState).maintOffer =
      some ⟨.walkRecord, readRequest (0x08000000 + 512 + 1856) 48⟩ := by decide +kernel
/-- Completion: the table of the sequence; generation 42 goes to the stream. -/
theorem test_walk_stops :
    let s := scanning (tornCursor (some header116)) [out .maint (.maint .walkRecord) .read 48]
    let t := after (.walkRecordReadResponse .error) s
    (t.log.tail, t.log.writePos, t.log.durableHead, t.log.lastLength, t.log.usedSpace) = (1008, 1856, 1856, 3, 848) ∧
      (t.log.nextSeq, t.log.nextEpoch, t.log.generation) = (116, 24, 42) ∧
      t.log.marks.map Mark.epoch = [21, 22, 23] ∧ t.stream.map StreamItem.isHeader = [true] := by decide +kernel
/-- R138, R139: record 114 opens epoch 23, whose mark is rebuilt. -/
theorem test_walk_rebuilds_mark :
    let c := { tornCursor none with
      working := [mark 21 103 1008 3 30000, mark 22 112 1568 5], position := 1696, expected := 114, found := 2,
      highest := 22 }
    let t := (scanning c []).acceptWalked c { header116 with seq := 114, epoch := 23, count := 3 }
    (t.scan.map fun c => (c.position, c.expected, c.lastLength)) = some (1808, 115, 7) ∧
      (t.scan.map fun c => c.working.getLast?) = some (some { mark 23 114 1696 3 with recovered := true }) := by
  decide +kernel
/-- ATTACH_DONE: records found 4, mark count 3, current epoch 23; ARMED. -/
theorem test_attach_ends :
    let t := after (.headerWriteResponse .okay) attachEnds
    t.log.engine = .armed ∧ t.scan = none ∧
      t.events.queue = [{ kind := .attachDone, epoch := 23, address := none, requester := none,
                          detail := .attach 4 3 }] := by decide +kernel

/-! ## FORMAT, SET_LOG and DETACH (chapter 6) -/

/-- FORMAT's write of a copy outstanding. -/
def formatting (copy : CopyName) : State :=
  { withLog ({ resetLog with area := area 16384 } : LogController).formatted with
    port := { outstanding := [out .maint (.maint (.formatCopy copy)) .write 256], bypass := 0 } }

/-- R130: epoch 1 with first sequence 1; copy B is written first. -/
theorem test_format :
    let t := after .format (withLog { resetLog with area := area 16384 })
    t.log.marks = [mark 1 1 0 0] ∧ (t.log.engine, t.log.nextEpoch, t.log.nextSeq) = (.formatting, 2, 1) ∧
      t.maintOffer.map MaintOffer.step = some (.formatCopy .b) := by decide +kernel
/-- R129: without a log area. -/
theorem test_format_no_area : statusOf .format State.reset = .refused .noLogArea := by decide
/-- R131: copy A follows copy B, and FORMAT ends after it. -/
theorem test_format_copy_b :
    (after (.formatCopyWriteResponse .okay) (formatting .b)).maintOffer.map MaintOffer.step =
      some (.formatCopy .a) := by decide +kernel
theorem test_format_copy_a : (after (.formatCopyWriteResponse .okay) (formatting .a)).log.engine = .armed := by
  decide +kernel
/-- R127: the smallest and the largest size. -/
theorem test_set_log :
    (statusOf (.setLog 0x1000 16384) State.reset, statusOf (.setLog 0x1000 67108864) State.reset,
      statusOf (.setLog 0x1000 12288) State.reset) = (.done, .done, .refused .range) := by decide +kernel
theorem test_set_log_state : statusOf (.setLog 0x1000 16384) (withLog checkpointLog) = .refused .state := by decide +kernel
/-- R72: a write with one reading and one waiting run stays CAPTURING without the waiting one. -/
theorem test_detach :
    let s := { withLog checkpointLog with
      window := [entry 0 0 .write [0x10000000, 0x10000040] 4 (.held .space ⟨3, 0⟩)
        [run 0 0x10000000 1 (.reading true), run 1 0x10000040 1 .stalled]] }
    let t := after .detach s
    t.log.engine = .detaching ∧ t.window.map Entry.phase = [.capturing] ∧
      t.window.map (fun e => e.runs.map Run.id) = [[0]] := by decide +kernel
/-- R145. -/
theorem test_detach_complete :
    let t := after .detachComplete (withLog { checkpointLog with engine := .detaching, reserved := 0 })
    t.log = { resetLog with area := area 16384 } ∧ t.events.queue.map Event.epoch = [4] := by decide +kernel

/-! ## Chapter 7: grants under load -/

/-- The state after record 500's write returned, before the grant of happening 1. -/
def grantState (bypass : Nat) (outstanding : List Outstanding) (stream : List StreamItem) : State :=
  { withLog twoRunsLog with
    stream := stream
    window :=
      [unlogged (entry 0 4 .read [0x40000000] 7 .ready),
       entry 0 6 .write [0x20000000] 7 .capturing [run 6 0x20000000 1 (.reading false)],
       unlogged (entry 0 8 .read [0x40000020] 7 .ready)]
    staging := { runSlots := [.run 6], filler := none }
    port := { outstanding := outstanding, bypass := bypass } }

/-- The first three of the outstanding list. -/
def threeOut : List Outstanding :=
  [out .log (.record 501) .write 48, out .capture (.capture 3) .read 64, out .host (.host 1 2) .read 64]

/-- The owner of the newest outstanding request. -/
def newestOwner (s : State) : Option Owner := s.port.outstanding.getLast?.map Outstanding.owner

/-- Happening 1: LOG wins with record 502; the count becomes 3. -/
theorem test_grant_log :
    let t := after .memoryGrant (grantState 2 threeOut [streamed (record 501 7 5000 1 3) true,
      streamed (record 502 7 5048 1 3) false, streamed (record 503 7 5096 1 3) false])
    newestOwner t = some (.record 502) ∧ t.port.bypass = 3 := by decide +kernel
/-- Happening 3: with the count at 4 HOST is granted W4, and the count becomes 0. -/
theorem test_grant_host :
    let t := after .memoryGrant (grantState 4 threeOut [streamed (record 504 7 5144 1 3) false])
    newestOwner t = some (.host 0 4) ∧ t.port.bypass = 0 ∧
      t.window.map Entry.phase = [.issued, .capturing, .ready] := by decide +kernel

/-! ## Chapter 8: a fault during a checkpoint with the queue near full -/

/-- The state at the FAULT strobe of happening 2: six entries in the queue. -/
def faultState : State :=
  { withLog { checkpointingLog with
      marks := [mark 30 1 0 0], reservedEpoch := some 31, nextEpoch := 32,
      policy := { resetPolicy with faultAction := .freezeRollback } } with
    events := { queue := List.replicate 6 { kind := .logLow, epoch := 30, address := none, requester := none,
                                            detail := .absent }
                lost := false, summary := summaryBit .logLow } }

/-- The state at the persistence of happening 6, the queue holding seven. -/
def faultEnds : State :=
  { faultState with
    log := { faultState.log with
      marks := [mark 30 1 0 0, mark 31 2 48 3], reservedEpoch := none, faultLatch := true, checkpointLatch := true,
      freeze := true }
    window := [entry 2 0 .write [0x10000000] 31 (.held .freeze ⟨0, 0⟩)]
    events := faultState.events.post { kind := .faultSeen, epoch := 30, address := none, requester := none,
                                       detail := .action .freezeRollback }
    stream := [headerItem resetLog .checkpoint 12 true]
    port := { outstanding := [out .log (.header 12) .write 256], bypass := 0 } }

/-- Happening 2. -/
theorem test_fault_strobe :
    let t := after .faultStrobe faultState
    (t.log.freeze, t.log.faultLatch, t.log.engine, t.events.queue.length) = (true, true, .checkpointing, 7) ∧
      (t.events.queue.getLast?.map fun e => (e.kind, e.epoch, e.detail)) =
        some (.faultSeen, 30, .action .freezeRollback) := by decide +kernel
/-- Happening 6: the latched rollback, the full queue, and the summary. -/
theorem test_latches_at_armed :
    let t := after (.headerWriteResponse .okay) faultEnds
    (t.log.engine, t.rollback.map RollbackCursor.target, t.log.faultLatch, t.log.checkpointLatch) =
      (.quiescing, some 31, false, false) ∧
      (t.events.queue.length, t.events.lost) = (8, true) ∧
      t.events.summary = summaryBit .logLow ||| summaryBit .faultSeen ||| summaryBit .checkpointDone |||
        summaryBit .refused ||| summaryBit .checkpointIgnored := by decide +kernel
/-- R22 to R25: a failed record write. -/
theorem test_log_fault :
    let t := after (.recordWriteResponse .error) persisting
    (t.log.engine, t.log.writePos, t.log.lastLength, t.stream) = (.logFault, 5952, 3, []) ∧
      t.window.map Entry.phase = [.done .refused []] ∧
      (t.events.queue.map fun e => (e.kind, e.detail)) =
        [(.logFault, .number 299), (.refused, .refusal .logFault)] := by decide +kernel

/-! ## Chapter 11: log full under RECYCLE -/

/-- Log Controller before episode 1; the first sequences are not given there. -/
def recycleLog : LogController :=
  { resetLog with
    engine := .armed, area := area 16384, marks := [mark 20 900 1008 3, mark 21 1000 5504 3, mark 22 1100 10000 3],
    tail := 1008, writePos := 752, durableHead := 752, lastLength := 3, nextSeq := 1180, nextEpoch := 23,
    generation := 60, lowSpace := true, policy := { policy90 with logFull := .recycle, holdLimit := 1000 } }

/-- A write of four granules with its one run. -/
def fourGranules (first epoch : Num) (phase : Phase) (condition : RunCondition) : Entry :=
  entry 0 0 .write [first, first + 32, first + 64, first + 96] epoch phase [run 0 first 4 condition]

/-- Happening 1: W1's run is to ask. -/
def recycleWaiting : State :=
  { withLog recycleLog with
    capture := { set := [], nextRunId := 1, walkOwed := true }
    window := [fourGranules 0x20000400 22 .capturing .pending] }

/-- Happening 6: the checkpoint's header write is about to persist, W3 HELD for space. -/
def recycleEnds : State :=
  { withLog { recycleLog with
      engine := .checkpointing
      marks := [mark 21 1000 5504 3, mark 22 1100 10000 3, mark 23 1300 1600 3, mark 24 1401 5280 3], tail := 5504
      writePos := 5280, durableHead := 5280, nextSeq := 1401, nextEpoch := 25, generation := 71, logFull := true } with
    window := [fourGranules 0x20000800 24 (.held .space ⟨5, 1000⟩) .stalled]
    stream := [headerItem recycleLog .checkpoint 71 true]
    port := { outstanding := [out .log (.header 71) .write 256], bypass := 0 } }

/-- Happening 1: mark 20 is dropped, generation 61 lists marks 21 and 22, and W1's run is granted. -/
theorem test_walk_recycles :
    let t := after .captureWalk recycleWaiting
    (t.log.tail, t.log.usedSpace, t.log.reserved, t.log.lowSpace, t.log.logFull, t.log.generation) =
      (5504, 11120, 272, false, false, 61) ∧
      (t.stream.map fun i => match i.body with
        | .header _ c => c.marks.map Mark.epoch
        | .record _ => []) = [[21, 22]] ∧
      (t.events.queue.map fun e => (e.kind, e.detail)) = [(.epochDropped, .number 20)] := by decide +kernel
/-- Happening 6: CHECKPOINT_DONE, and in the same step the walk that drops mark 21 for W3. -/
theorem test_header_write_response :
    let t := after (.headerWriteResponse .okay) recycleEnds
    (t.log.engine, t.log.tail, t.log.usedSpace, t.log.reserved, t.log.lowSpace, t.log.logFull, t.log.generation) =
      (.armed, 10000, 11152, 272, false, false, 72) ∧ t.window.map Entry.phase = [.capturing] ∧
      (t.events.queue.map fun e => (e.kind, e.detail)) =
        [(.checkpointDone, .number 24), (.epochDropped, .number 21)] := by decide +kernel

/-! ## Chapter 9 and the other commands -/

/-- READ_STATUS of F1: ARMED, two marks, epoch 5, one event. -/
def linkState : State :=
  { withLog { checkpointLog with marks := [mark 4 43 2048 5, mark 5 50 2400 3], tail := 2048 } with
    events := { queue := [{ kind := .logLow, epoch := 5, address := none, requester := none, detail := .number 752 }]
                lost := false, summary := summaryBit .logLow } }

/-- The results of a command's response. -/
def resultsOf (c : Instr) (s : State) : List Byte := (after c s).link.response.results

/-- F1: ARMED is 3, mark count 2, event count 1, current epoch 5; used 752 bytes of 15 872; LOG_LOW is bit 11. -/
theorem test_read_status :
    resultsOf .readStatus linkState =
      [3, 0, 2, 0, 0, 1, 0, 0, 0, 5, 0, 0, 0x02, 0xF0, 0, 0, 0x3E, 0, 0x00, 0x08, 0x00] := by decide +kernel
/-- F4: kind 12, detail present, epoch 5, detail 752. -/
theorem test_pop_event :
    resultsOf .popEvent linkState = [12, 4, 0, 0, 0, 5, 0, 0, 0, 0, 0, 0, 0, 0x02, 0xF0] ∧
      (after .popEvent linkState).attn = false := by decide +kernel
theorem test_pop_event_empty : statusOf .popEvent State.reset = .refused .empty := by decide
/-- F5: NOP cut short after its command byte. -/
theorem test_frame_discard : statusOf (.frameDiscard (byteBits 0x01)) linkState = .linkError := by decide +kernel
theorem test_nop : statusOf .nop linkState = .done := by decide
/-- R182: the status byte of DONE leaves MSDO most significant bit first; zeros follow the three bytes. -/
theorem test_msdo : ((List.range 8).map fun n => State.reset.link.response.msdo n) =
    [false, false, false, false, false, false, false, true] ∧ State.reset.link.response.msdo 24 = false := by decide
theorem test_clear_summary :
    (after .clearSummary linkState).events.summary = 0 ∧ (after .clearSummary linkState).events.queue.length = 1 := by
  decide
theorem test_read_mark :
    resultsOf (.readMark 0) linkState = [0, 0, 0, 4, 0, 0, 0, 43, 0, 0, 8, 0, 0, 0, 0, 0, 5, 0] ∧
      statusOf (.readMark 2) linkState = .refused .range := by decide +kernel
/-- R133, R191: in SCANNING the mark count is 0 and every index is refused, also once the attach is completed. -/
theorem test_marks_in_scanning :
    (resultsOf .readStatus attachEnds)[2]? = some 0 ∧ statusOf (.readMark 0) attachEnds = .refused .range := by
  decide +kernel
/-- R190, R203. -/
theorem test_read_region :
    resultsOf (.readRegion 2) hostState = [1, 1, 3, 0x30, 0, 0, 0, 0, 1, 0, 0] ∧
      statusOf (.readRegion 16) hostState = .refused .range := by decide +kernel
/-- R81: an overlap with region 2, and an accepted range. -/
theorem test_set_region :
    (statusOf (.setRegion 3 0x30000000 4096 0 15) hostState, statusOf (.setRegion 3 0x50000000 4096 1 15) hostState,
      statusOf (.setRegion 3 0x50000000 4096 1 16) hostState) = (.refused .overlap, .done, .refused .range) := by
  decide +kernel
theorem test_clear_region : (after (.clearRegion 2) hostState).regions[2] = invalidRegion := by decide +kernel
/-- R195, R196, R203. -/
theorem test_set_policy :
    let t := after (.setPolicy 1 2 400 90 256 1000 1) State.reset
    t.log.policy =
      { logFull := .recycle, faultAction := .freezeRollback, holdLimit := 400, threshold := 90, prescaler := 256,
        reference := 1000, timerAction := .checkpoint } := by decide +kernel
theorem test_set_policy_range : statusOf (.setPolicy 0 0 0 0 257 0 0) State.reset = .refused .range := by decide +kernel
theorem test_read_policy : resultsOf .readPolicy State.reset = [0, 1, 0, 0, 0, 0, 1, 0, 0, 0, 0, 0] := by decide +kernel
theorem test_freeze : (after .freeze State.reset).log.freeze = true := by decide
/-- R198, R159: the outstanding request becomes an orphan. -/
theorem test_restart :
    let t := after .restart deliveryState
    t.log = resetLog ∧ t.port.outstanding.map Outstanding.orphan = [true] ∧ t.window = [] := by decide +kernel
theorem test_rst : (after (.rst .falls) deliveryState).rstLow = true := by decide +kernel
theorem test_power_on : (after .powerOn deliveryState).port.outstanding = [] := by decide +kernel
theorem test_orphan_response :
    (after (.orphanResponse (.okay (List.replicate 32 0)))
      { State.reset with port := { outstanding := [orphanRead], bypass := 0 } }).port.outstanding = [] := by
  decide +kernel
theorem test_stray_response : after (.strayResponse .error) State.reset = State.reset := by decide +kernel
theorem test_discarded_item_response :
    (after (.discardedItemResponse .error)
      { State.reset with port := { outstanding := [out .log .discarded .write 48], bypass := 0 } }).port.outstanding =
      [] := by decide +kernel
/-- R16: placed with the next generation once the stream has room. -/
theorem test_header_write_placement :
    let t := after .headerWritePlacement (withLog { checkpointLog with waitingHeader := some .release })
    t.log.generation = 12 ∧ t.stream.length = 1 ∧ t.log.waitingHeader = none := by decide +kernel
/-- R47: one mark with the next epoch at the write position. -/
theorem test_discard :
    let t := after .discard (withLog checkpointLog)
    t.log.marks = [mark 5 58 2800 5] ∧ (t.log.tail, t.log.nextEpoch, t.log.engine) = (2800, 6, .updating) := by
  decide +kernel
/-- R50, R52: the reference 9 731 is reached. -/
theorem test_tick :
    let l := { checkpointLog with policy := { resetPolicy with reference := 9731 } }
    (after .tick (withLog l)).log.timer = { ticks := 0, counter := 9731, fired := false, due := some 9731 } := by
  decide +kernel
theorem test_epoch_timer :
    let l := { checkpointLog with
      timer := { stoppedTimer with due := some 9731 }, policy := { resetPolicy with timerAction := .freeze } }
    let t := after .epochTimer (withLog l)
    (t.log.freeze, t.log.timer.fired) = (true, true) ∧ t.events.queue.map Event.detail = [.number 9731] := by
  decide +kernel

/-! ## Witnesses: a state and operands that meet the hypotheses of each statement -/

theorem witness_EveryResetGivesTheResetValues :
    deliveryState.rstLow = false ∧ (after (.rst .falls) deliveryState).rstLow = true ∧ linkCommand .nop = true := by
  decide +kernel

/-- A state of the rollback sequence with a command in front. -/
def pendingState : State := { rollbackState with pending := [.rollback 1] }

theorem witness_EveryStepKeepsTheWindowLaw : WindowLaw pendingState ∧ ∃ t, Machine.step pendingState = .next t :=
  ⟨⟨by decide, by decide⟩, _, rfl⟩

theorem witness_EveryStepKeepsTheCapacityLaws :
    PortLaw pendingState ∧ StreamLaw pendingState ∧ EventLaw pendingState ∧ ∃ t, Machine.step pendingState = .next t :=
  ⟨⟨by decide, by decide⟩, ⟨by decide, by decide⟩, by unfold EventLaw; decide, _, rfl⟩

theorem witness_EveryStepKeepsTheCaptureSetLaw :
    CaptureSetLaw { boundaryState with pending := [.checkpointBoundary] } ∧
      ∃ t, Machine.step { boundaryState with pending := [.checkpointBoundary] } = .next t :=
  ⟨⟨by decide, by decide⟩, _, rfl⟩

theorem witness_EveryStepKeepsTheMarkLaw :
    MarkLaw { walkState with pending := [.walkHeaderReadResponse .error] } ∧
      ∃ t, Machine.step { walkState with pending := [.walkHeaderReadResponse .error] } = .next t := by
  refine ⟨⟨by decide, by decide, ?_⟩, _, rfl⟩
  intro c h
  simp only [walkState, scanning, Option.some.injEq] at h
  subst h
  exact ⟨by decide, by intro copy h; simp [tornCursor] at h⟩

theorem witness_EveryStepKeepsTheTimerLaw : TimerLaw pendingState ∧ ∃ t, Machine.step pendingState = .next t :=
  ⟨⟨by decide, by decide, by decide, by decide⟩, _, rfl⟩

theorem witness_FreezeFlagChangesOnlyByItsCommands :
    (exec .freeze State.reset = .next (after .freeze State.reset) ∧ State.reset.log.freeze = false ∧
      (after .freeze State.reset).log.freeze = true) ∧
    exec .thaw (heldState 1) = .next (after .thaw (heldState 1)) ∧ (heldState 1).log.freeze = true ∧
      (after .thaw (heldState 1)).log.freeze = false :=
  ⟨⟨rfl, rfl, rfl⟩, rfl, rfl, rfl⟩

theorem witness_SettingsChangeOnlyByTheirCommands :
    (∃ t, exec .tick hostState = .next t) ∧ isReset .tick = false ∧
      (∀ i b n m w, Instr.tick ≠ .setRegion i b n m w) ∧ (∀ i, Instr.tick ≠ .clearRegion i) ∧
      (∀ b n, Instr.tick ≠ .setLog b n) ∧ ∀ l f h n p r a, Instr.tick ≠ .setPolicy l f h n p r a := by
  refine ⟨⟨_, rfl⟩, rfl, ?_, ?_, ?_, ?_⟩ <;> intros <;> simp

theorem witness_RefusedCommandChangesOnlyTheResponse :
    linkCommand .halt = true ∧ linkState.rstLow = false ∧ (∃ t, exec .halt linkState = .next t) ∧
      statusOf .halt linkState = .refused .state :=
  ⟨rfl, rfl, ⟨_, rfl⟩, rfl⟩

theorem witness_LinkFrameReadsBack : encodeFrame .nop = some [0x01, 0x00, 0x15] := by decide +kernel

theorem witness_ReceiverJudgesFrames :
    ([] : List Byte).length ≤ 16 ∧ (0x15 : Byte) = crc8 [0x01, 0] ∧ decodeCommand 0x01 [] = some .nop ∧
      (0x14 : Byte) ≠ crc8 [0x01, 0] ∧ decodeCommand 0x00 [] = none ∧ 16 < (17 : Byte).toNat ∧
      judgeFrame (byteBits 0x01) = .discarded ∧ linkState.rstLow = false ∧
      (List.replicate 24 (0 : Byte)).length ≤ 24 := by decide +kernel

theorem witness_CreatedRecordReadsBack :
    poisoned301.back < 16 ∧ poisoned301.count < 8 ∧ poisoned301.kind ≠ .other ∧ wrapLog.lastLength ≤ 9 ∧
      (wrapLog.filler 80 4 0).isSome ∧ (List.replicate 128 (0 : Byte)).length = 32 * 4 := by decide +kernel

/-- A log with eight marks, the newest at the last place of the ring, with the greatest back length. -/
def fullLog : LogController :=
  { checkpointLog with marks := (List.range 8).map fun k => mark (BitVec.ofNat 32 (k + 1)) 1 (15856 - 16 * (7 - k)) 9 }

theorem witness_HeaderWriteReadsBackValid :
    1 ≤ fullLog.marks.length ∧ fullLog.marks.length ≤ 8 ∧ epochsIncrease fullLog.marks = true ∧
      ∀ m ∈ fullLog.marks, m.offset % 16 = 0 ∧ m.offset < fullLog.ringSize ∧ m.offset < 2 ^ 32 ∧ m.back ≤ 9 := by
  decide +kernel

/-- A LOG_LOW event. -/
def logLowEvent : Event := { kind := .logLow, epoch := 5, address := none, requester := none, detail := .absent }

/-- The Event Queue full. -/
def fullQueue : State := { linkState with events := { linkState.events with queue := List.replicate 8 logLowEvent } }

theorem witness_PostingFollowsTheQueueRule : linkState.events.queue.length < 8 ∧ 8 ≤ fullQueue.events.queue.length := by
  decide

theorem witness_PopEventReturnsTheOldestEntry :
    State.reset.rstLow = false ∧ State.reset.events.queue = [] ∧
      ∃ e rest, fullQueue.rstLow = false ∧ fullQueue.events.queue = e :: rest :=
  ⟨rfl, rfl, _, _, rfl, rfl⟩

theorem witness_ClearSummaryClearsSummaryAndLost :
    linkState.rstLow = false ∧ (∃ t, exec .clearSummary linkState = .next t) ∧
      ∃ u, exec .clearSummary (linkState.post .logLow none none .absent) = .next u :=
  ⟨rfl, ⟨_, rfl⟩, _, rfl⟩

theorem witness_FreezeAndThawMoveTheFlag :
    linkState.rstLow = false ∧ linkState.log.freeze = false ∧ (heldState 1).rstLow = false ∧
      (heldState 1).log.freeze = true := by decide

/-- An engine state under FREEZE_ROLLBACK. -/
def faultIn (engine : EngineState) : State :=
  { faultState with log := { faultState.log with engine := engine } }

theorem witness_FaultStrobeAppliesTheAction :
    State.reset.rstLow = false ∧ State.reset.log.engine = .detached ∧
      ((withLog checkpointLog).log.engine ≠ .detached ∧ (withLog checkpointLog).log.policy.faultAction = .freeze) ∧
      ((faultIn .logFault).log.engine = .logFault ∧ (faultIn .logFault).log.policy.faultAction = .freezeRollback) ∧
      faultState.log.engine ∉ [EngineState.detached, .armed, .logFault] ∧
      ((faultIn .armed).log.engine = .armed ∧ (faultIn .armed).log.marks ≠ []) := by decide

theorem witness_NopOnlyAnswersDone : linkState.rstLow = false := rfl

theorem witness_ReadCommandsReturnTheFields :
    linkState.rstLow = false ∧ (15 : BitVec 8).toNat < 16 ∧ 16 ≤ (16 : BitVec 8).toNat ∧
      (1 : BitVec 8).toNat < linkState.log.marks.length ∧ linkState.log.marks.length ≤ (2 : BitVec 8).toNat ∧
      linkState.log.engine ≠ .scanning ∧ attachEnds.rstLow = false ∧ attachEnds.log.engine = .scanning ∧
      0 < attachEnds.log.marks.length := by decide

/-- Region 2 in use: an entry whose snapshot names it waits for a record. -/
def inUseState : State :=
  { hostState with window := [entry 0 0 .write [0x30000000] 9 .awaitRecord [] (some 5)] }

theorem witness_SetRegionIsTestedInOrder :
    hostState.rstLow = false ∧ (faultIn .halted).log.engine = .halted ∧
      (16 ≤ (16 : BitVec 8).toNat ∧ ¬(hostState.log.engine = .quiescing ∨ hostState.log.engine = .rollingBack ∨
        hostState.log.engine = .halted)) ∧
      (∃ j : Fin 16, j.val ≠ (3 : BitVec 8).toNat ∧ hostState.regions[j].valid = true ∧
        hostState.regions[j].base.toNat = (0x30000000 : BitVec 32).toNat) ∧
      (∃ e ∈ inUseState.window, ∃ snap, e.snapshot = some snap ∧ snap.index.val = (2 : BitVec 8).toNat ∧
        e.waits.hit ≠ none) ∧
      statusOf (.setRegion 15 0xFFFFF000 4096 0 15) State.reset = .done :=
  ⟨rfl, rfl, by decide, ⟨2, by decide, by decide, by decide⟩,
    ⟨_, List.mem_singleton.2 rfl, _, rfl, rfl, by decide⟩, by decide +kernel⟩

theorem witness_ClearRegionIsTestedInOrder :
    hostState.rstLow = false ∧ (faultIn .quiescing).log.engine = .quiescing ∧ 16 ≤ (16 : BitVec 8).toNat ∧
      statusOf (.clearRegion 2) inUseState = .refused .inUse ∧ statusOf (.clearRegion 15) hostState = .done := by
  decide +kernel

theorem witness_SetPolicyIsReadBackByReadPolicy :
    linkState.rstLow = false ∧
      ((1 : BitVec 8).toNat ≤ 1 ∧ (2 : BitVec 8).toNat ≤ 2 ∧ (100 : BitVec 8).toNat ≤ 100 ∧
        1 ≤ (256 : BitVec 16).toNat ∧ (256 : BitVec 16).toNat ≤ 256) ∧ ¬(1 ≤ (0 : BitVec 16).toNat) := by decide

theorem witness_SetLogIsTestedInOrder :
    State.reset.rstLow = false ∧ hostState.log.engine ≠ .detached ∧ State.reset.log.engine = .detached ∧
      statusOf (.setLog 0x30008000 16384) { hostState with log := resetLog } = .refused .overlap ∧
      statusOf (.setLog 0xFC000000 67108864) State.reset = .done ∧
      statusOf (.setLog 0xFC001000 67108864) State.reset = .refused .range := by decide +kernel

theorem witness_LongOperationsAreRefusedByEngineState :
    linkState.rstLow = false ∧ faultState.log.engine ∉ [EngineState.detached, .armed, .logFault] ∧
      faultState.log.engine ≠ .halted ∧ linkState.log.engine = .armed ∧ State.reset.log.engine = .detached ∧
      State.reset.log.area = none ∧ linkState.log.marks.length ≤ (2 : BitVec 8).toNat := by decide

theorem witness_FormatAndAttachStart :
    let s := withLog { resetLog with area := area 16384 }
    s.rstLow = false ∧ s.log.engine = .detached ∧ s.log.area = area 16384 := by decide

theorem witness_FormatCopyResponseCarriesFormatOn (copy : CopyName) :
    ∃ o, (formatting copy).port.outstanding = [o] ∧ o.orphan = false ∧ o.owner = .maint (.formatCopy copy) ∧
      (formatting copy).log.engine = .formatting ∧ (formatting copy).log.area = area 16384 :=
  ⟨_, rfl, rfl, rfl, rfl, rfl⟩

/-- 256 bytes of zeros, no valid copy. -/
def zeroCopy : List Byte := List.replicate 256 0

theorem zeroCopy_fields : copyFieldsValid 15872 .b (markCountByte zeroCopy) (parseCopy zeroCopy) = false := by
  decide +kernel

/-- The bytes of a valid copy B, of generation 12. -/
def copyB : List Byte := copyBytes (checkpointLog.headerCopy 12)

theorem copyB_fields : copyFieldsValid 15872 .b (markCountByte copyB) (parseCopy copyB) = true := by decide +kernel

theorem witness_AttachHeaderResponseChoosesTheCopy (copy : CopyName) :
    let s := scanning { openScan with copyA := some copyA } [out .maint (.maint (.attachHeader copy)) .read 256]
    ∃ o c, s.port.outstanding = [o] ∧ o.orphan = false ∧ o.owner = .maint (.attachHeader copy) ∧
      o.request.kind = .read ∧ o.request.length = 256 ∧ s.scan = some c ∧ c.copyA = some copyA ∧ openScan.copyA = none ∧
      s.log.area = area 16384 ∧ s.log.faultLatch = false ∧ zeroCopy.length = 256 ∧ copyB.length = 256 ∧
      validCopy 15872 .b zeroCopy = none ∧ validCopy 15872 .b copyB = some (parseCopy copyB) := by
  refine ⟨_, _, rfl, rfl, rfl, rfl, rfl, rfl, rfl, rfl, rfl, rfl, by decide +kernel, by decide +kernel, ?_,
    validCopy_headerCopy _ _ _ _ (by decide) copyB_fields⟩
  simp only [validCopy, zeroCopy_fields, Bool.false_eq_true, and_false, if_false]

/-- The two generations in either order. -/
theorem witness_AttachHeaderResponseChoosesTheCopy_generations :
    copyA.generation.toNat = 41 ∧ (parseCopy copyB).generation.toNat = 12 ∧
      (parseCopy copyB).marks.getLast? = some (mark 4 43 2048 5) ∧ copyA.marks.head? = some (mark 21 103 1008 3 30000) := by
  decide +kernel

theorem witness_WalkAcceptsTheCheckedRecord :
    let bytes := headerBytes header116
    let c := tornCursor none
    let h := parseHeader bytes
    h.seq = c.expected ∧ below h.epoch 23 = false ∧ h.back = c.lastLength ∧ byteAt bytes 13 &&& 0xCC = 0 ∧
      h.kind = .data ∧ 1 ≤ h.count ∧ h.count ≤ 4 ∧ c.position + 16 + 32 * h.count ≤ 15872 ∧ h.first.toNat % 32 = 0 ∧
      h.first.toNat % 128 + 32 * h.count ≤ 128 ∧ 0x08000000 + 16384 ≤ h.first.toNat ∧
      ringSub 15872 c.position c.workingTail + (16 + 32 * h.count) + 16 ≤ 15872 := by decide +kernel

/-- The cursor at 15 808, 64 bytes before the ring end, with a full working list. -/
def fillCursor (examined : Option RecordHeader) : ScanCursor :=
  { tornCursor examined with
    working := (List.range 8).map fun k => mark (BitVec.ofNat 32 (10 + k)) 23 1008 3, position := 15808 }

/-- A filler there, of a new epoch. -/
def filler116 : RecordHeader := sealHeader { header116 with first := 0, count := 0, kind := .filler } []

/-- A filler that passes the header tests and the code test, one with a wrong code, and a header that fails a test. -/
theorem witness_WalkAcceptsTheCheckedRecord_filler :
    let s := scanning (fillCursor none) [out .maint (.maint .walkHeader) .read 16]
    let bytes := headerBytes filler116
    let h := parseHeader bytes
    let c := fillCursor none
    s.scan = some c ∧ s.stream = [] ∧ bytes.length = 16 ∧ c.working.getLast? = some (mark 17 23 1008 3) ∧
      c.working.length = 8 ∧ below 17 h.epoch = true ∧
      (h.seq = c.expected ∧ below h.epoch 17 = false ∧ h.back = c.lastLength ∧ byteAt bytes 13 &&& 0xCC = 0) ∧
      (h.kind = .filler ∧ h.count = 0 ∧ h.poison = false ∧ h.first = 0 ∧ 15872 - c.position ≤ 128 ∧
        ringSub 15872 c.position c.workingTail + (15872 - c.position) + 16 ≤ 15872) ∧
      crc16 (bytes.take 14) = h.check ∧ crc16 (bytes.take 14) ≠ 0 ∧
      (parseHeader (headerBytes { header116 with seq := 117 })).seq ≠ c.expected := by decide +kernel

theorem witness_WalkAcceptsTheCheckedRecord_whole :
    let s := scanning (tornCursor (some header116)) [out .maint (.maint .walkRecord) .read 48]
    let bytes := headerBytes (sealHeader header116 (List.replicate 32 5)) ++ List.replicate 32 5
    ∃ o c h newest, s.port.outstanding = [o] ∧ o.orphan = false ∧ o.owner = .maint .walkRecord ∧
      o.request.kind = .read ∧ bytes.length = o.request.length ∧ s.scan = some c ∧ c.examined = some h ∧ h.kind = .data ∧
      c.working.getLast? = some newest ∧ crc16 (bytes.take 14 ++ bytes.drop 16) = readLe16 bytes 14 :=
  ⟨_, _, _, _, rfl, rfl, rfl, rfl, rfl, rfl, rfl, rfl, rfl, sealed_code header116 _⟩

/-- A whole record with a wrong check code. -/
theorem witness_WalkAcceptsTheCheckedRecord_torn :
    let bytes := headerBytes (sealHeader header116 (List.replicate 32 5)) ++ List.replicate 32 6
    crc16 (bytes.take 14 ++ bytes.drop 16) ≠ readLe16 bytes 14 := by decide +kernel

/-- A stop with a resumption mark for a full list, and one without. -/
theorem witness_WalkStopCompletesTheAttach (resumes : Bool) :
    let chosen := { copyA with nextSeq := if resumes then 200 else 112 }
    let c := { fillCursor none with chosen := some chosen }
    let s := scanning c [out .maint (.maint .walkHeader) .read 16]
    ∃ o, s.port.outstanding = [o] ∧ o.orphan = false ∧ o.owner = .maint .walkHeader ∧ s.scan = some c ∧
      c.chosen = some chosen ∧ s.stream = [] ∧ below c.expected chosen.nextSeq = resumes ∧ 8 ≤ c.working.length :=
  ⟨_, rfl, rfl, rfl, rfl, rfl, rfl, by cases resumes <;> decide, by cases resumes <;> decide⟩

theorem witness_DetachStopsGrantingSpace :
    wrapHeld.rstLow = false ∧ wrapHeld.log.engine ∈ [EngineState.armed, .halted, .logFault] := by decide

theorem witness_DetachCompletionGivesTheLogUp :
    let s := withLog { checkpointLog with engine := .detaching }
    s.log.engine = .detaching ∧ s.staging.runSlots = [] ∧ s.staging.filler = none ∧ s.stream = [] := by decide

theorem witness_CheckpointAcceptanceReservesTheEpoch :
    linkState.rstLow = false ∧ linkState.log.engine = .armed ∧
      faultState.log.engine ∈ [EngineState.checkpointing, .updating] ∧
      State.reset.log.engine ∉ [EngineState.armed, .checkpointing, .updating] := by decide

theorem witness_BoundaryMakesTheNewMark :
    boundaryState.log.engine = .checkpointing ∧ boundaryState.log.reservedEpoch = some 5 ∧
      boundaryState.log.marks = [mark 3 23 1024 3 15004] ++ [mark 4 43 2048 5] ∧ headerWrites boundaryState.stream < 8 ∧
      (List.replicate 7 (mark 3 23 1024 3)).length < 8 ∧
      ∀ e ∈ boundaryState.window, e.epoch = 4 → ∀ r ∈ e.runs, r.isReading = false := by decide +kernel

/-- A deferred run once the reserved epoch is open. -/
theorem witness_BoundaryMakesTheNewMark_deferred :
    let v := { boundaryState with log := { boundaryState.log with reservedEpoch := none } }
    v.log.reservedEpoch = none ∧ ∃ e, v.findRun 1 =
      some (e, run 1 0x10003000 1 (.deferred false (List.replicate 32 9))) :=
  ⟨rfl, _, rfl⟩

theorem witness_ReleaseDropsTheOldestMarks :
    wrapHeld.rstLow = false ∧ wrapHeld.log.engine = .armed ∧ 1 ≤ (1 : BitVec 8).toNat ∧
      (1 : BitVec 8).toNat < wrapHeld.log.marks.length ∧ wrapHeld.log.policy.logFull = .wait ∧
      headerWrites wrapHeld.stream < 8 := by decide

/-- Under RECYCLE the walk of a RELEASE may fill the stream, and then its header write waits. -/
theorem witness_ReleaseDropsTheOldestMarks_waits :
    let held := fourGranules 0x20000400 22 (.held .space ⟨0, 0⟩) .stalled
    let marks := [mark 19 800 900 3, mark 20 900 1008 3, mark 21 1000 1100 3, mark 22 1100 10000 3]
    let s := { withLog { recycleLog with marks := marks, tail := 900 } with
      window := [held], stream := List.replicate 7 (headerItem resetLog .recycle 1 false) }
    s.log.engine = .armed ∧ (after (.release 1) s).log.waitingHeader = some .release ∧
      headerWrites (after (.release 1) s).stream = 8 := by decide +kernel

/-- Eight header writes in the stream. -/
def fullStream : List StreamItem := List.replicate 8 (headerItem resetLog .recycle 1 false)

theorem witness_DiscardOpensAFreshEpoch :
    rollbackState.rstLow = false ∧ rollbackState.log.engine ∈ [EngineState.armed, .halted, .logFault] ∧
      headerWrites rollbackState.stream < 8 ∧ 8 ≤ headerWrites fullStream := by decide +kernel

theorem witness_TickCountsTheTimers :
    State.reset.log.engine = .detached ∧ checkpointLog.policy.prescaler ≤ checkpointLog.timer.ticks + 1 ∧
      checkpointLog.timer.counter ≠ 0xFFFFFFFF ∧ checkpointLog.timer.due = none ∧
      ({ resetPolicy with prescaler := 2 } : Policy).prescaler > checkpointLog.timer.ticks + 1 := by decide

theorem witness_EpochTimerFires :
    let s := withLog { checkpointLog with timer := { stoppedTimer with due := some 9 } }
    s.log.timer.due = some 9 ∧ s.log.policy.timerAction = .event ∧ s.log.engine = .armed := by decide

theorem witness_RecordWriteOkayPersistsTheRecord :
    ∃ o r, persisting.port.outstanding = [o] ∧ o.orphan = false ∧ o.owner = .record r.header.seq ∧
      persisting.stream = [] ++ { body := .record r, issued := true } :: [] :=
  ⟨_, _, rfl, rfl, rfl, rfl⟩

/-- A header write of a purpose, issued and alone in the stream, its write outstanding. -/
def headerEnds (purpose : HeaderPurpose) : State :=
  { checkpointEnds with
    stream := [headerItem checkpointLog purpose 12 true]
    rollback := some { target := 4, applied := 2, replay := none }, scan := some (tornCursor none) }

theorem witness_HeaderWritesArePlacedAndFinish (purpose : HeaderPurpose) :
    (∃ o copy, (headerEnds purpose).port.outstanding = [o] ∧ o.orphan = false ∧ o.owner = .header copy.generation ∧
      (headerEnds purpose).stream = { body := .header purpose copy, issued := true } :: []) ∧
    (∃ oldest, (headerEnds purpose).log.marks.head? = some oldest) ∧
    (∃ cursor, (headerEnds purpose).rollback = some cursor) ∧ headerWrites State.reset.stream < 8 ∧
    (headerEnds purpose).log.engine ≠ .armed :=
  ⟨⟨_, checkpointLog.headerCopy 12, rfl, rfl, rfl, rfl⟩, ⟨_, rfl⟩, ⟨_, rfl⟩, by decide, (by decide : EngineState.checkpointing ≠ .armed)⟩

/-- A RECYCLE release's header write persists while a run is stalled in ARMED under RECYCLE: the run asks again. -/
theorem witness_HeaderWritesArePlacedAndFinish_stalled :
    let s := { recycleEnds with
      log := { recycleEnds.log with engine := .armed }
      stream := headerItem recycleLog .recycle 71 true :: List.replicate 7 (headerItem resetLog .recycle 1 false) }
    s.log.engine = .armed ∧ s.log.policy.logFull = .recycle ∧
      (s.window.any fun e => e.runs.any fun r => r.condition == .stalled) = true ∧
      (after (.headerWriteResponse .okay) s).window.map Entry.phase = [.capturing] := by decide +kernel

theorem witness_ReturnToArmedCancelsAndActsOnLatches :
    (∃ o copy c, (headerEnds .attach).port.outstanding = [o] ∧ o.orphan = false ∧ o.owner = .header copy.generation ∧
      (headerEnds .attach).stream = { body := .header .attach copy, issued := true } :: [] ∧
      (headerEnds .attach).scan = some c) ∧
    ∃ newest, (headerEnds .release).log.marks.getLast? = some newest ∧ (headerEnds .release).window = [] ∧
      (headerEnds .release).log.faultLatch = false ∧ (headerEnds .release).log.checkpointLatch = false ∧
      faultEnds.log.faultLatch = true ∧ faultEnds.log.checkpointLatch = true :=
  ⟨⟨_, checkpointLog.headerCopy 12, _, rfl, rfl, rfl, rfl, rfl⟩, _, rfl, rfl, rfl, rfl, rfl, rfl⟩

theorem witness_StreamWriteErrorEntersLogFault :
    ∃ o item, persisting.port.outstanding = [o] ∧ o.orphan = false ∧ persisting.stream = [] ++ item :: [] ∧
      item.issued = true ∧ ∃ r, item.body = .record r ∧ o.owner = .record r.header.seq :=
  ⟨_, _, rfl, rfl, rfl, rfl, _, rfl, rfl⟩

theorem witness_IgnoredResponsesOnlyFreeTheirSlots :
    orphanRead.orphan = true ∧ (out .log .discarded .write 48).owner = .discarded ∧
      (let s := { rollbackState with
        window := [entry 1 0 .write [0x30001000] 13 (.done .refused []) [run 2 0x30001000 1 .abandoned]]
        port := { outstanding := [out .capture (.capture 2) .read 32], bypass := 0 } }
      (s.findRun 2).map (fun p => p.2.condition) = some .abandoned) := by decide +kernel

/-- A full Capture Set. -/
def fullSet : List CaptureEntry := (List.range 64).map fun k => ⟨BitVec.ofNat 32 (32 * k), 250⟩

theorem witness_CaptureSetTakesTheNewEntry :
    fullSet.length = 64 ∧ (fullSet.map CaptureEntry.granule).Nodup ∧
      (fullSet.find? fun c => c.granule == 0x800) = none ∧ (fullSet.find? fun c => c.granule == 0x7E0).isSome ∧
      fullSet.head? = some ⟨0, 250⟩ := by decide +kernel

theorem witness_CaptureReadCreatesTheRecord :
    ∃ o e r, wrapReading.port.outstanding = [o] ∧ o.orphan = false ∧ o.owner = .capture r.id ∧ o.request.kind = .read ∧
      o.request.length = 32 * r.count ∧ wrapReading.findRun r.id = some (e, r) ∧ r.condition = .reading true ∧
      wrapReading.log.reservedEpoch ≠ some e.epoch ∧ wrapReading.log.writePos < wrapReading.log.ringSize :=
  ⟨_, _, run 0 0x20000000 2 (.reading true), rfl, rfl, rfl, rfl, rfl, rfl, rfl, by decide, by decide⟩

theorem witness_EarlyReadDefersAndLowSpaceCompares :
    ∃ o e r, deferring.port.outstanding = [o] ∧ o.orphan = false ∧ o.owner = .capture r.id ∧ o.request.kind = .read ∧
      o.request.length = 32 ∧ deferring.findRun r.id = some (e, r) ∧ r.condition = .reading true ∧
      deferring.log.reservedEpoch = some e.epoch ∧ 0 < wrapLog.policy.threshold :=
  ⟨_, _, run 1 0x10003000 1 (.reading true), rfl, rfl, rfl, rfl, rfl, rfl, rfl, rfl, by decide⟩

/-- A write in an engine state and with a tag, free to leave ORDERED behind an entry that does not block it. -/
def deciding (engine : EngineState) (epoch : Num) (freeze : Bool) : State :=
  { twoRuns .capturing .ordered with
    log := { twoRunsLog with engine := engine, freeze := freeze }
    window := [entry 1 0 .write [0x20000800] 7 .capturing, entry 2 0 .write [0x20004000, 0x20004020] epoch .ordered] }

theorem witness_CaptureDecisionSendsTheOldestFreeEntry (engine : EngineState) (epoch : BitVec 32) (freeze : Bool) :
    let s := deciding engine epoch freeze
    let older := [entry 1 0 .write [0x20000800] 7 .capturing]
    let e := entry 2 0 .write [0x20004000, 0x20004020] epoch .ordered
    WindowLaw s ∧ s.window = older ++ e :: [] ∧ e.phase = .ordered ∧ e.isLoggedWrite = true ∧
      s.log.engine = engine ∧ s.log.freeze = freeze ∧ e.epoch = epoch ∧
      (∀ a ∈ older, ¬∃ g, g ∈ a.granules ∧ g ∈ e.granules) ∧
      (∀ before x behind, older = before ++ x :: behind → x.phase ≠ .ordered) ∧
      s.lookupCapture 0x20004000 = some 299 ∧ isPersisted s.stream 299 = false ∧ s.log.reservedEpoch = none := by
  refine ⟨⟨by simp [deciding], by simp [deciding, entry]⟩, rfl, rfl, rfl, rfl, rfl, rfl, ?_, ?_, rfl, ?_, rfl⟩
  · simp [entry]
  · intro before x behind h
    match before with
    | [] => simp at h; rw [← h.1]; simp [entry]
    | b :: more => simp at h
  · show isPersisted (twoRuns .capturing .ordered).stream 299 = false
    decide

/-- The walk with one waiting run: the clauses of space, of WAIT and of RECYCLE. -/
theorem witness_WalkGrantsByTheSpaceTest :
    ∃ e r, wrapWaiting.window = [] ++ e :: [] ∧ e.runs = [] ++ r :: [] ∧ r.waiting = true ∧ WindowLaw wrapWaiting ∧
      wrapWaiting.capture.walkOwed = true ∧ wrapWaiting.log.engine ∈ [EngineState.armed, .checkpointing, .updating] ∧
      wrapWaiting.staging.runSlots.length < 7 ∧
      wrapWaiting.log.usedSpace + wrapWaiting.log.reserved + (16 + 32 * r.count + 32 * r.count) + 16 ≤
        wrapWaiting.log.ringSize ∧ wrapWaiting.log.policy.logFull = .wait :=
  ⟨_, _, rfl, rfl, rfl, ⟨by decide, by decide⟩, by decide⟩

/-- Each reason for which a refused run is handled as under WAIT. -/
theorem witness_WalkGrantsByTheSpaceTest_stalls :
    wrapFull.log.policy.logFull = .wait ∧ recycleEnds.log.engine = .checkpointing ∧ twoRunsLog.marks.length ≤ 1 ∧
      8 ≤ headerWrites fullStream ∧ wrapFull.staging.runSlots.length ≤ 7 := by decide

/-- RECYCLE without space for a run that the oldest mark's space lets in. -/
def recycling : State :=
  { wrapFull with
    log := { wrapFull.log with policy := { resetPolicy with logFull := .recycle } } }

theorem witness_WalkGrantsByTheSpaceTest_refused :
    (∃ e r, wrapFull.window = [] ++ e :: [] ∧ e.runs = [] ++ r :: [] ∧ r.waiting = true ∧
      ¬(wrapFull.log.usedSpace + wrapFull.log.reserved + (16 + 32 * r.count + 32 * r.count) + 16 ≤
        wrapFull.log.ringSize)) ∧
    WindowLaw wrapFull ∧ wrapFull.capture.walkOwed = true ∧ wrapFull.log.policy.logFull = .wait ∧
    recycling.log.policy.logFull = .recycle ∧ recycling.log.engine = .armed ∧ headerWrites recycling.stream < 8 ∧
    recycling.log.marks = mark 3 10 640 3 :: mark 4 40 4640 3 :: [] ∧
    ({ recycling.log with marks := [mark 4 40 4640 3], tail := 4640, lowSpace := false } : LogController).usedSpace +
      (16 + 128 + 128) + 16 ≤ recycling.log.ringSize :=
  ⟨⟨_, _, rfl, rfl, rfl, by decide⟩, ⟨by decide, by decide⟩, by decide⟩

theorem witness_RollbackAcceptanceTargetsTheMark :
    rollbackState.rstLow = false ∧ rollbackState.log.engine = .armed ∧
      rollbackState.log.marks = [] ++ mark 11 393 7600 3 21400 :: [mark 12 400 8000 5 19950, mark 13 404 8224 3] ∧
      [mark 12 400 8000 5 19950, mark 13 404 8224 3].length = (2 : BitVec 8).toNat := by decide

theorem witness_QuiesceCompleteStartsTheReplay :
    quiesced.rollback = some { target := 12, applied := 0, replay := none } ∧
      quiesced.log.marks = [mark 11 393 7600 3 21400, mark 12 400 8000 5 19950] ++ [mark 13 404 8224 3] ∧
      quiesced.log.engine = .quiescing ∧ quiesced.staging.runSlots = [] ∧ quiesced.staging.filler = none ∧
      quiesced.stream = [] ∧ quiesced.window = [] ∧ quiesced.log.durableHead ≠ 8224 ∧ quiesced.log.lastLength ≠ 0 := by
  decide

/-- QUIESCING at the newest mark's offset, with back length 0 and not: to cross, and to halt in the epoch before it. -/
theorem witness_QuiesceCompleteStartsTheReplay_crosses (back : Nat) :
    let s := { quiesced with log := { quiesced.log with durableHead := 8224, lastLength := back } }
    s.log.durableHead = (mark 13 404 8224 3).offset ∧ (mark 13 404 8224 3).epoch ≠ 12 ∧
      [mark 11 393 7600 3 21400, mark 12 400 8000 5 19950] = [mark 11 393 7600 3 21400] ++ [mark 12 400 8000 5 19950] ∧
      s.log.durableHead ≠ 8000 ∧ s.log.lastLength = back ∧ quiesced.log.durableHead ≠ 8224 :=
  ⟨rfl, by decide, rfl, (by decide : 8224 ≠ 8000), rfl, by decide⟩

/-- The read of record 401 outstanding. -/
def checkingState : State :=
  replayState .rollingBack (replayAt 8128 5 12 404 (some 402) (.reading 8048 80)) 5 [out .maint (.maint .recordRead) .read 80]

theorem witness_RecordReadIsCheckedInOrder :
    ∃ o cursor replay span, checkingState.port.outstanding = [o] ∧ o.orphan = false ∧ o.owner = .maint .recordRead ∧
      o.request.kind = .read ∧ o.request.length = 80 ∧ checkingState.rollback = some cursor ∧
      cursor.replay = some replay ∧ replay.progress = .reading 8048 80 ∧
      checkingState.log.marks.find? (fun m => m.epoch == replay.span) = some span ∧
      checkingState.log.area = area 65536 :=
  ⟨_, _, _, _, rfl, rfl, rfl, rfl, rfl, rfl, rfl, rfl, rfl, rfl⟩

/-- A usable record of 80 bytes at 8 048 with a sequence and an epoch number. -/
def recordBytes (seq epoch : Num) : List Byte :=
  headerBytes (sealHeader { header403 with seq := seq, epoch := epoch, count := 2 } (List.replicate 64 5)) ++
    List.replicate 64 5

/-- The code check passes. -/
theorem witness_RecordReadIsCheckedInOrder_code (seq epoch : BitVec 32) :
    crc16 ((recordBytes seq epoch).take 14 ++ (recordBytes seq epoch).drop 16) =
      (parseHeader (recordBytes seq epoch)).check :=
  sealed_code _ _

/-- The form check passes for the record, the sequence check for 401 and not for 400, the epoch check for 12 and not for 13;
a record of zeros fails the form check. -/
theorem witness_RecordReadIsCheckedInOrder_rest :
    let h := parseHeader (recordBytes 401 12)
    (recordBytes 401 12).length = 80 ∧ h.kind = .data ∧ h.count = 2 ∧ h.poison = false ∧ h.first.toNat % 32 = 0 ∧
      h.first.toNat % 128 + 64 ≤ 128 ∧ 0x08000000 + 65536 ≤ h.first.toNat ∧
      byteAt (recordBytes 401 12) 13 &&& 0xCC = 0 ∧ 80 ≤ ringSub 65024 8128 8000 ∧
      h.seq + 1 = 402 ∧ (parseHeader (recordBytes 400 12)).seq + 1 ≠ 402 ∧ h.epoch = 12 ∧
      (parseHeader (recordBytes 401 13)).epoch ≠ 12 ∧ (parseHeader (List.replicate 80 0)).kind = .other := by
  decide +kernel

/-- A usable poisoned record at 8 048, and a usable filler that ends at the ring end. -/
theorem witness_RecordReadIsCheckedInOrder_passedOver :
    let poisonBytes := headerBytes (sealHeader { header403 with seq := 401, count := 2, poison := true }
      (List.replicate 64 0)) ++ List.replicate 64 0
    let fillerBytes := headerBytes (sealHeader { header403 with seq := 401, first := 0, count := 0, kind := .filler } []) ++
      List.replicate 64 7
    let p := parseHeader poisonBytes
    let f := parseHeader fillerBytes
    crc16 (poisonBytes.take 14 ++ poisonBytes.drop 16) = p.check ∧
    (poisonBytes.length = 80 ∧ p.kind = .data ∧ p.poison = true ∧ p.count = 2 ∧ p.seq + 1 = 402 ∧ p.epoch = 12 ∧
      byteAt poisonBytes 13 &&& 0xCC = 0) ∧
    (fillerBytes.length = 80 ∧ f.kind = .filler ∧ f.count = 0 ∧ f.poison = false ∧ f.seq + 1 = 402 ∧ f.epoch = 12 ∧
      byteAt fillerBytes 13 &&& 0xCC = 0 ∧ crc16 (fillerBytes.take 14) = f.check ∧ 80 ≤ ringSub 65024 0 8000 ∧
      ringSub 65024 0 80 ≠ 8000) :=
  ⟨sealed_code _ _, by decide +kernel, by decide +kernel⟩

/-- A filler whose check code is wrong. -/
theorem witness_RecordReadIsCheckedInOrder_badCode :
    let h : RecordHeader :=
      { seq := 401, epoch := 12, first := 0, back := 3, count := 0, poison := false, requester := 0, kind := .filler,
        check := 0 }
    crc16 (headerMessage h) ≠ 0 := by decide +kernel

/-- The clauses at a position before the target mark's offset, with the halt asked for and not, and at that offset. -/
theorem witness_RestoreWriteMovesBack (halt : Bool) (position back : Nat) :
    let s := replayState .rollingBack (replayAt 8224 3 12 404 none (.restoring { header403 with back := back } position)
      halt) 3 [out .maint (.maint .restoreWrite) .write 32]
    ∃ o cursor replay, s.port.outstanding = [o] ∧ o.orphan = false ∧ o.owner = .maint .restoreWrite ∧
      o.request.kind = .write ∧ s.rollback = some cursor ∧ cursor.replay = some replay ∧
      replay.progress = .restoring { header403 with back := back } position ∧ replay.haltRequested = halt ∧
      s.log.marks = [mark 11 393 7600 3 21400] ++ mark 12 400 8000 5 19950 :: [mark 13 404 8224 3] ∧
      (12 : BitVec 32) = replay.span ∧ (12 : BitVec 32) = cursor.target ∧
      (∀ m ∈ [mark 11 393 7600 3 21400, mark 13 404 8224 3], m.epoch ≠ 12) ∧
      (s.log.marks.find? fun m => m.epoch == cursor.target).map Mark.offset = some 8000 ∧ headerWrites s.stream < 8 :=
  ⟨_, _, _, rfl, rfl, rfl, rfl, rfl, rfl, rfl, rfl, rfl, rfl, rfl, by decide, rfl, show headerWrites [] < 8 by decide⟩

/-- The replay at mark 13's offset, the target 12 older, its mark at another offset or at the same. -/
theorem witness_RestoreWriteMovesBack_crosses (offset : Nat) :
    let marks := [mark 11 393 7600 3 21400, mark 12 400 offset 5 19950] ++ mark 13 404 8224 3 :: []
    let replay := replayAt 8336 7 13 407 (some 405) (.restoring { header403 with seq := 404, epoch := 13 } 8224)
    let s := { replayState .rollingBack replay 2 [out .maint (.maint .restoreWrite) .write 32] with
      log := { rollbackLog with engine := .rollingBack, marks := marks } }
    ∃ o cursor, s.port.outstanding = [o] ∧ o.owner = .maint .restoreWrite ∧ s.rollback = some cursor ∧
      cursor.replay = some replay ∧ cursor.target = 12 ∧ s.log.marks = marks ∧ (13 : BitVec 32) = replay.span ∧
      (∀ m ∈ [mark 11 393 7600 3 21400, mark 12 400 offset 5 19950], m.epoch ≠ 13) ∧
      (13 : BitVec 32) ≠ cursor.target ∧ replay.haltRequested = false :=
  ⟨_, _, rfl, rfl, rfl, rfl, rfl, rfl, rfl, by simp [mark], by decide, rfl⟩

theorem witness_HaltAndResumeSteerTheReplay :
    haltingState.rstLow = false ∧ haltingState.log.engine = .rollingBack ∧
      (let s := replayState .rollingBack (replayAt 8000 5 12 404 (some 400) .completing) 7 []
      ∃ cursor replay, s.rollback = some cursor ∧ cursor.replay = some replay ∧ s.log.engine = .rollingBack ∧
        replay.progress = .completing) ∧
      ∀ position back, (let s := replayState .halted (replayAt position back 12 404 (some 403) .between) 4 []
      ∃ cursor replay, s.rollback = some cursor ∧ cursor.replay = some replay ∧ s.log.engine = .halted ∧
        s.log.marks = [mark 11 393 7600 3 21400] ++ mark 12 400 8000 5 19950 :: [mark 13 404 8224 3] ∧
        replay.span = 12 ∧ replay.position = position ∧ replay.back = back ∧
        ∀ m ∈ [mark 13 404 8224 3], m.epoch ≠ replay.span) :=
  ⟨rfl, rfl, ⟨_, _, rfl, rfl, rfl, rfl⟩, fun _ _ =>
    ⟨_, _, rfl, rfl, rfl, rfl, rfl, rfl, rfl, (by decide : ∀ m ∈ [mark 13 404 8224 3], m.epoch ≠ 12)⟩⟩

/-- HALTED at the offset of mark 13, the target 12 older. -/
theorem witness_HaltAndResumeSteerTheReplay_crosses :
    let s := replayState .halted (replayAt 8224 3 13 407 (some 404) .between) 3 []
    ∃ cursor replay, s.rollback = some cursor ∧ cursor.replay = some replay ∧ s.log.engine = .halted ∧
      s.log.marks = [mark 11 393 7600 3 21400, mark 12 400 8000 5 19950] ++ mark 13 404 8224 3 :: [] ∧
      (13 : BitVec 32) = replay.span ∧ replay.position = 8224 ∧ (13 : BitVec 32) ≠ cursor.target ∧
      (∀ m ∈ [mark 13 404 8224 3], m.epoch ≠ 12) ∧
      ∃ m ∈ [mark 11 393 7600 3 21400, mark 12 400 8000 5 19950], m.epoch = cursor.target :=
  ⟨_, _, rfl, rfl, rfl, rfl, rfl, rfl, by decide, by decide, mark 12 400 8000 5 19950, by decide, rfl⟩

theorem witness_MemoryGrantFollowsThePriority :
    let s := grantState 4 threeOut [streamed (record 504 7 5144 1 3) false]
    s.rstLow = false ∧ WindowLaw s ∧ s.port.outstanding.length < 4 ∧ 4 ≤ s.port.bypass ∧
      (s.window.head?.map Entry.phase) = some .ready ∧ (s.findRun 6).map (fun p => p.2.condition) = some (.reading false) ∧
      1 ≤ (entry 0 4 .read [0x40000000] 7 .ready).length :=
  ⟨by decide, ⟨by decide, by decide⟩, by decide⟩

/-- Only MAINT has an offer, LOG and CAPTURE none; with nothing offered; and with all four slots taken. -/
theorem witness_MemoryGrantFollowsThePriority_maint :
    let s := after .resume (replayState .halted (replayAt 8176 3 12 404 (some 403) .between) 4 [])
    s.rstLow = false ∧ s.port.outstanding.length < 4 ∧ s.stream = [] ∧ s.staging.runSlots = [] ∧
      (s.maintOffer.map MaintOffer.step) = some .recordRead ∧ s.port.bypass < 4 ∧ s.window = [] ∧
      State.reset.maintOffer = none ∧ 4 ≤ (orphanRead :: threeOut).length := by decide +kernel

theorem witness_HostRequestBecomesAWindowEntry :
    hostState.rstLow = false ∧ hostState.host.channel ++ (some request1).toList = [request1] ∧
      hostState.window.length < 8 ∧
      (1 ≤ 64 ∧ request1.address.toNat % 128 + 64 ≤ 128) ∧ hostState.regions[2].valid = true ∧
      hostState.regions[2].base.toNat ≤ request1.address.toNat ∧
      request1.address.toNat < hostState.regions[2].base.toNat + hostState.regions[2].size ∧
      hostState.regions[2].mask.getLsbD 0 = true ∧ hostState.regions[2].mask.getLsbD 2 = false := by decide +kernel

theorem witness_AccessesEndAndResponsesAreDelivered :
    WindowLaw deliveryState ∧
      (∃ o, deliveryState.port.outstanding = [o] ∧ o.orphan = false ∧ o.owner = .host 0 5 ∧ o.request.kind = .read) ∧
      (deliveryState.window.getLast?.map Entry.phase) = some .issued ∧ deliveryState.host.offered = some 2 ∧
      WindowLaw (heldState 400) ∧ (heldState 400).window.map Entry.phase = [.held .freeze ⟨400, 400⟩] :=
  ⟨⟨by decide, by decide⟩, ⟨_, rfl, rfl, rfl, rfl⟩, by decide, rfl, ⟨by decide, by decide⟩, by decide⟩

end Sys2Proof.Tests
end

/-! # What every step keeps of the capacity laws and of the mark law (O6, O8)

One relation for the four laws, and one lemma per operation: each says that an operation made in `t` keeps whatever `t`
has kept of the laws of `s`. The lemma of a composed operation is then the chain of its parts. -/

section
-- One proof after another: the threads of many at once outgrow the check's memory limit.
set_option Elab.async false
namespace Sys2Proof.Machine

variable {s t : State}

/-- Each of the laws on capacities and marks that holds in `s` holds in `t`. -/
def Keeps (s t : State) : Prop :=
  (PortLaw s → PortLaw t) ∧ (StreamLaw s → StreamLaw t) ∧ (EventLaw s → EventLaw t) ∧ (MarkLaw s → MarkLaw t)

theorem Keeps.refl (s : State) : Keeps s s := ⟨id, id, id, id⟩

theorem Keeps.trans {u : State} (h : Keeps s t) (k : Keeps t u) : Keeps s u :=
  ⟨k.1 ∘ h.1, k.2.1 ∘ h.2.1, k.2.2.1 ∘ h.2.2.1, k.2.2.2 ∘ h.2.2.2⟩

/-! ## Replacing and changing one block -/

theorem Keeps.withPending (h : Keeps s t) (p : List Instr) : Keeps s (t.withPending p) := h
theorem Keeps.withRst (h : Keeps s t) (low : Bool) : Keeps s (t.withRst low) := h
theorem Keeps.withHost (h : Keeps s t) (p : HostPort) : Keeps s (t.withHost p) := h
theorem Keeps.modHost (h : Keeps s t) (f : HostPort → HostPort) : Keeps s (t.modHost f) := h
theorem Keeps.withWindow (h : Keeps s t) (w : List Entry) : Keeps s (t.withWindow w) := h
theorem Keeps.withRegions (h : Keeps s t) (r : Vector Region 16) : Keeps s (t.withRegions r) := h
theorem Keeps.modCapture (h : Keeps s t) (f : CaptureUnit → CaptureUnit) : Keeps s (t.modCapture f) := h
theorem Keeps.withRollback (h : Keeps s t) (c : Option RollbackCursor) : Keeps s (t.withRollback c) := h
theorem Keeps.offerMaint (h : Keeps s t) (step : MaintStep) (r : MemRequest) : Keeps s (t.offerMaint step r) := h
theorem Keeps.withMaint (h : Keeps s t) (m : Option MaintOffer) : Keeps s (t.withMaint m) := h
theorem Keeps.respond (h : Keeps s t) (status : Status) (results : List Byte) : Keeps s (t.respond status results) := h
theorem Keeps.refuse (h : Keeps s t) (reason : CommandRefusal) : Keeps s (t.refuse reason) := h
theorem Keeps.mapEntries (h : Keeps s t) (p : Entry → Bool) (f : Entry → Entry) : Keeps s (t.mapEntries p f) := h
theorem Keeps.updateEntry (h : Keeps s t) (r : Requester) (tag : Tag) (f : Entry → Entry) :
    Keeps s (t.updateEntry r tag f) := h
theorem Keeps.oweWalk (h : Keeps s t) : Keeps s t.oweWalk := h
theorem Keeps.oweWalkIf (h : Keeps s t) (c : Bool) : Keeps s (t.oweWalkIf c) := by cases c <;> exact h
theorem Keeps.clearCaptureSet (h : Keeps s t) : Keeps s t.clearCaptureSet := h
theorem Keeps.releaseHolds (h : Keeps s t) (cause : HoldCause) : Keeps s (t.releaseHolds cause) := h
theorem Keeps.setEngine (h : Keeps s t) (x : EngineState) : Keeps s (t.setEngine x) := h
theorem Keeps.restartTimer (h : Keeps s t) : Keeps s t.restartTimer := h
theorem Keeps.setFaultLatch (h : Keeps s t) (b : Bool) : Keeps s (t.setFaultLatch b) := h
theorem Keeps.setCheckpointLatch (h : Keeps s t) (b : Bool) : Keeps s (t.setCheckpointLatch b) := h
theorem Keeps.setLowSpace (h : Keeps s t) (b : Bool) : Keeps s (t.setLowSpace b) := h
theorem Keeps.acceptCheckpoint (h : Keeps s t) : Keeps s t.acceptCheckpoint := h
theorem Keeps.decideCapture (h : Keeps s t) (e : Entry) : Keeps s (t.decideCapture e) := h

/-- A change of the Log Controller that leaves a sound mark list and its tail. -/
theorem Keeps.modLogMarks (h : Keeps s t) (f : LogController → LogController)
    (marks : MarkLaw t → (f t.log).marks.length ≤ 8 ∧ (f t.log).tail = oldestOffset (f t.log).marks) :
    Keeps s (t.modLog f) := by
  obtain ⟨port, stream, events, law⟩ := h
  refine ⟨port, stream, events, fun k => ?_⟩
  have ⟨few, tail⟩ := marks (law k)
  exact ⟨few, tail, (law k).2.2⟩

/-- A change of the Log Controller that leaves the mark list and the tail as they are. -/
theorem Keeps.modLog (h : Keeps s t) (f : LogController → LogController) (marks : (f t.log).marks = t.log.marks)
    (tail : (f t.log).tail = t.log.tail) : Keeps s (t.modLog f) :=
  h.modLogMarks f fun ⟨few, oldest, _⟩ => by rw [marks, tail]; exact ⟨few, oldest⟩

theorem Keeps.withScan (h : Keeps s t) (c : Option ScanCursor) (scan : MarkLaw t → ∀ x, c = some x → ScanLaw x) :
    Keeps s (t.withScan c) := by
  obtain ⟨port, stream, events, law⟩ := h
  exact ⟨port, stream, events, fun k => ⟨(law k).1, (law k).2.1, scan (law k)⟩⟩

theorem Keeps.withoutScan (h : Keeps s t) : Keeps s (t.withScan none) := h.withScan none fun _ _ k => nomatch k

theorem Keeps.modPort (h : Keeps s t) (f : MemoryPort → MemoryPort)
    (port : PortLaw t → (f t.port).outstanding.length ≤ 4 ∧ (f t.port).bypass ≤ 4) : Keeps s (t.modPort f) :=
  ⟨port ∘ h.1, h.2⟩

theorem Keeps.modStaging (h : Keeps s t) (f : Staging → Staging)
    (slots : (f t.staging).runSlots.length ≤ t.staging.runSlots.length) : Keeps s (t.modStaging f) := by
  obtain ⟨port, stream, events, law⟩ := h
  exact ⟨port, fun k => ⟨(stream k).1, slots.trans (stream k).2⟩, events, law⟩

theorem Keeps.modStream (h : Keeps s t) (f : List StreamItem → List StreamItem)
    (headers : headerWrites t.stream ≤ 8 → headerWrites (f t.stream) ≤ 8) : Keeps s (t.modStream f) := by
  obtain ⟨port, stream, events, law⟩ := h
  exact ⟨port, fun k => ⟨headers (stream k).1, (stream k).2⟩, events, law⟩

theorem Keeps.modEvents (h : Keeps s t) (f : EventQueue → EventQueue)
    (room : t.events.queue.length ≤ 8 → (f t.events).queue.length ≤ 8) : Keeps s (t.modEvents f) := by
  obtain ⟨port, stream, events, law⟩ := h
  exact ⟨port, stream, room ∘ events, law⟩

/-! ## Events -/

/-- Posting never fills the queue beyond its capacity (R170). -/
theorem EventQueue.post_length (q : EventQueue) (e : Event) (h : q.queue.length ≤ 8) : (q.post e).queue.length ≤ 8 := by
  unfold EventQueue.post
  by_cases room : q.queue.length < Config.eventCapacity
  · simp only [room, decide_true, if_true, List.length_append, List.length_singleton]
    exact room
  · simpa [room] using h

theorem Keeps.post (h : Keeps s t) (k : EventKind) (a : Option Num) (r : Option Requester) (d : Detail) :
    Keeps s (t.post k a r d) :=
  h.modEvents (fun q => q.post _) (EventQueue.post_length _ _)

theorem Keeps.report (h : Keeps s t) (k : EventKind) (d : Detail) : Keeps s (t.report k d) := h.post k none none d

theorem Keeps.postRefused (h : Keeps s t) (r : RefusalReason) (e : Entry) : Keeps s (t.postRefused r e) := h.post _ _ _ _

theorem Keeps.postRefusals (h : Keeps s t) (r : RefusalReason) (entries : List Entry) :
    Keeps s (t.postRefusals r entries) := by
  induction entries generalizing t with
  | nil => exact h
  | cons e rest ih => exact ih (h.postRefused r e)

theorem Keeps.compareLowSpace (h : Keeps s t) : Keeps s t.compareLowSpace := by
  unfold State.compareLowSpace
  split
  · exact h.setLowSpace false
  · split
    · split
      · exact h
      · exact (h.setLowSpace true).report _ _
    · exact h.setLowSpace false

/-! ## Ports and window -/

theorem Keeps.freeSlot (h : Keeps s t) : Keeps s t.freeSlot :=
  h.modPort _ fun ⟨few, bypass⟩ => ⟨by simp; omega, bypass⟩

theorem Keeps.checkHostOffer (h : Keeps s t) : Keeps s t.checkHostOffer := by
  unfold State.checkHostOffer
  split
  · exact h
  · exact h.modPort _ fun ⟨few, _⟩ => ⟨few, Nat.zero_le 4⟩

theorem Keeps.offerResponse (h : Keeps s t) : Keeps s t.offerResponse := by
  unfold State.offerResponse; split <;> exact h

theorem Keeps.refreshPorts (h : Keeps s t) : Keeps s t.refreshPorts := h.checkHostOffer.offerResponse

theorem Keeps.abandonCaptures (h : Keeps s t) (p : Entry → Bool) : Keeps s (t.abandonCaptures p) :=
  (((h.mapEntries p Entry.abandon).modLog _ rfl rfl).modStaging _ (List.length_filter_le _ _)).oweWalkIf _

theorem Keeps.refuseEntries (h : Keeps s t) (p : Entry → Bool) (r : RefusalReason) : Keeps s (t.refuseEntries p r) :=
  ((h.abandonCaptures p).mapEntries p _).postRefusals r _

/-! ## Header writes and marks -/

theorem headerWrites_append (a b : List StreamItem) : headerWrites (a ++ b) = headerWrites a + headerWrites b := by
  simp [headerWrites]

theorem headerWrites_filter_le (p : StreamItem → Bool) (items : List StreamItem) :
    headerWrites (items.filter p) ≤ headerWrites items :=
  (List.filter_sublist.filter _).length_le

theorem headerRoom_iff (items : List StreamItem) : headerRoom items = true ↔ headerWrites items < 8 := by
  rw [headerRoom, decide_eq_true_iff]; rfl

theorem Keeps.placeHeader (h : Keeps s t) (p : HeaderPurpose) (room : headerRoom t.stream = true) :
    Keeps s (t.placeHeader p) := by
  refine (h.modStream _ fun _ => ?_).modLog _ rfl rfl
  rw [headerWrites_append]
  exact (headerRoom_iff _).1 room

theorem Keeps.askHeader (h : Keeps s t) (p : HeaderPurpose) : Keeps s (t.askHeader p) := by
  unfold State.askHeader
  split
  · next room => exact h.placeHeader p room
  · exact h.modLog _ rfl rfl

theorem Keeps.dropMarks (h : Keeps s t) (n : Nat) : Keeps s (t.dropMarks n) :=
  h.modLogMarks _ fun ⟨few, _⟩ => ⟨by simp; omega, rfl⟩

/-! ## Record creation -/

theorem Keeps.appendRecord (h : Keeps s t) (r : Record) : Keeps s (t.appendRecord r) := by
  refine (h.modStream _ fun few => ?_).modLog _ rfl rfl
  rw [headerWrites_append]
  exact few

theorem Keeps.appendFiller (h : Keeps s t) (f : Option Record) : Keeps s (t.appendFiller f) := by
  cases f with
  | none => exact h
  | some r => exact (h.appendRecord r).modStaging _ (le_refl _)

theorem Keeps.postPoison (h : Keeps s t) (r : RecordHeader) : Keeps s (t.postPoison r) := by
  unfold State.postPoison
  split
  · exact h.post _ _ _ _
  · exact h

theorem Keeps.enterRecord (h : Keeps s t) (e : Entry) (run : Run) (r : Record) (taken : Nat) :
    Keeps s (t.enterRecord e run r taken) :=
  (((((((h.appendRecord r).modStaging _ (by simp [Staging.fillSlot])).modLog _ rfl rfl).oweWalkIf _).compareLowSpace).modCapture
    _).updateEntry _ _ _).postPoison _

theorem Keeps.createRecord (h : Keeps s t) (e : Entry) (run : Run) (poison : Bool) (data : List Byte) :
    Keeps s (t.createRecord e run poison data) := (h.appendFiller _).enterRecord e run _ _

theorem Keeps.createDeferred (h : Keeps s t) (id : Nat) : Keeps s (t.createDeferred id) := by
  unfold State.createDeferred
  split
  · split
    · exact h.createRecord _ _ _ _
    · exact h
  · exact h

theorem Keeps.createAllDeferred (h : Keeps s t) : Keeps s t.createAllDeferred := by
  unfold State.createAllDeferred
  generalize t.deferredRuns = ids
  induction ids generalizing t with
  | nil => exact h
  | cons id rest ih => exact ih (h.createDeferred id)

/-! ## The walk -/

theorem Keeps.recycleRelease (h : Keeps s t) (allowed : t.recycleAllowed = true) : Keeps s t.recycleRelease := by
  have room : headerRoom t.stream = true := by simp only [State.recycleAllowed, Bool.and_eq_true] at allowed; exact allowed.2
  exact ((((h.dropMarks 1).compareLowSpace).placeHeader .recycle (by simpa using room)).report _ _).oweWalk

theorem Keeps.postLogFull (h : Keeps s t) (e : Entry) (run : Run) : Keeps s (t.postLogFull e run) := by
  unfold State.postLogFull
  split
  · exact h
  · exact (h.modLog _ rfl rfl).post _ _ _ _

/-- A grant takes a run slot that was free (R63, R67). -/
theorem Keeps.grantRun (h : Keeps s t) (e : Entry) (run : Run) (free : t.staging.runSlots.length < 7) :
    Keeps s (t.grantRun e run) := by
  obtain ⟨port, stream, events, marks⟩ := h
  exact ⟨port, fun k => ⟨(stream k).1, by simpa [State.grantRun] using free⟩, events, marks⟩

theorem Keeps.stallRun (h : Keeps s t) (e : Entry) (run : Run) : Keeps s (t.stallRun e run) := by
  unfold State.stallRun
  split
  · exact h.postLogFull e run
  · exact (h.postLogFull e run).updateEntry _ _ _

/-- A request for space made with a run slot free ends in a grant or a stall, after the releases it needed. -/
theorem State.requestSpace_induction {R : State → State → Prop} (trans : ∀ {s t u}, R s t → R t u → R s u)
    (release : ∀ s, s.recycleAllowed = true → R s s.recycleRelease)
    (grant : ∀ s e run, s.log.hasSpace run.charge = true → s.staging.runSlots.length < 7 → R s (s.grantRun e run))
    (stall : ∀ s e run, R s (s.stallRun e run)) (s : State) (e : Entry) (run : Run) (releases : Nat)
    (free : s.staging.runSlots.length < 7) : R s (s.requestSpace e run releases).1 := by
  induction releases generalizing s with
  | zero =>
    unfold State.requestSpace
    split
    · next space => exact grant s e run space free
    · exact stall s e run
  | succ n ih =>
    unfold State.requestSpace
    split
    · next space => exact grant s e run space free
    · dsimp only
      split
      · next allowed => exact trans (release s allowed) (ih _ (by simpa using free))
      · exact stall s e run

theorem State.walkRuns_induction {R : State → State → Prop} (refl : ∀ s, R s s)
    (trans : ∀ {s t u}, R s t → R t u → R s u) (release : ∀ s, s.recycleAllowed = true → R s s.recycleRelease)
    (grant : ∀ s e run, s.log.hasSpace run.charge = true → s.staging.runSlots.length < 7 → R s (s.grantRun e run))
    (stall : ∀ s e run, R s (s.stallRun e run)) (s : State) (requester : Requester) (tag : Tag) (runs : Nat) :
    R s (s.walkRuns requester tag runs) := by
  induction runs generalizing s with
  | zero => exact refl s
  | succ n ih =>
    unfold State.walkRuns
    split
    · exact refl s
    · next taken =>
      split
      · exact refl s
      · next e _ =>
        split
        · exact refl s
        · next run _ =>
          have asked := State.requestSpace_induction (R := R) trans release grant stall s e run s.log.marks.length
            (Nat.lt_of_not_le taken)
          split
          · next t granted => rw [granted] at asked; exact trans asked (ih t)
          · next t refused => rw [refused] at asked; exact asked

/-- A walk is made of RECYCLE releases, grants and stalls: a transitive relation that holds of each holds of the walk. -/
theorem State.walk_induction {R : State → State → Prop} (refl : ∀ s, R s s) (trans : ∀ {s t u}, R s t → R t u → R s u)
    (answer : ∀ s, R s (s.modCapture fun c => { c with walkOwed := false }))
    (release : ∀ s, s.recycleAllowed = true → R s s.recycleRelease)
    (grant : ∀ s e run, s.log.hasSpace run.charge = true → s.staging.runSlots.length < 7 → R s (s.grantRun e run))
    (stall : ∀ s e run, R s (s.stallRun e run)) (s : State) : R s s.walk := by
  unfold State.walk
  split
  · generalize s.window.map (fun e => (e.requester, e.tag, e.runs.length)) = keys
    refine trans (answer s) ?_
    generalize (s.modCapture fun c => { c with walkOwed := false }) = t
    induction keys generalizing t with
    | nil => exact refl t
    | cons k rest ih =>
      exact trans (State.walkRuns_induction (R := R) refl trans release grant stall t k.1 k.2.1 k.2.2) (ih _)
  · exact answer s

theorem Keeps.walk (h : Keeps s t) : Keeps s t.walk :=
  h.trans (State.walk_induction (R := Keeps) Keeps.refl Keeps.trans (fun u => (Keeps.refl u).modCapture _)
    (fun u allowed => (Keeps.refl u).recycleRelease allowed) (fun u e run _ free => (Keeps.refl u).grantRun e run free)
    (fun u e run => (Keeps.refl u).stallRun e run) t)

theorem Keeps.walkStalled (h : Keeps s t) : Keeps s t.walkStalled := by
  unfold State.walkStalled
  split
  · exact h.walk
  · exact h

/-! ## The latches, rollback acceptance and a return to ARMED -/

theorem Keeps.dropCheckpointLatch (h : Keeps s t) : Keeps s t.dropCheckpointLatch := by
  unfold State.dropCheckpointLatch
  split
  · exact (h.setCheckpointLatch false).report _ _
  · exact h

theorem Keeps.dropFaultLatch (h : Keeps s t) (prevented : EngineState) : Keeps s (t.dropFaultLatch prevented) := by
  unfold State.dropFaultLatch
  split
  · exact (h.setFaultLatch false).report _ _
  · exact h

theorem Keeps.acceptRollback (h : Keeps s t) (m : Mark) : Keeps s (t.acceptRollback m) :=
  ((((h.setEngine .quiescing).withRollback _).mapEntries _ _).refuseEntries _ _).refreshPorts

theorem Keeps.acceptFaultRollback (h : Keeps s t) : Keeps s t.acceptFaultRollback := by
  unfold State.acceptFaultRollback
  split
  · exact h
  · exact h.acceptRollback _

theorem Keeps.actOnLatches (h : Keeps s t) : Keeps s t.actOnLatches := by
  unfold State.actOnLatches
  split
  · exact ((h.setFaultLatch false).acceptFaultRollback).dropCheckpointLatch
  · split
    · exact (h.setCheckpointLatch false).acceptCheckpoint
    · exact h

theorem Keeps.cancelAtLoggingStart (h : Keeps s t) : Keeps s t.cancelAtLoggingStart :=
  (h.refuseEntries _ _).refreshPorts

theorem Keeps.finishArmed (h : Keeps s t) : Keeps s t.finishArmed := h.actOnLatches.walk

/-! ## The checkpoint boundary -/

theorem closeNewest_append (older : List Mark) (m : Mark) (duration : Num) :
    closeNewest (older ++ [m]) duration = older ++ [{ m with duration := duration }] := by
  simp [closeNewest]

theorem closeNewest_length (marks : List Mark) (duration : Num) : (closeNewest marks duration).length = marks.length := by
  induction marks using List.reverseRecOn with
  | nil => rfl
  | append_singleton older m _ => simp [closeNewest_append]

/-- The offset of the oldest mark depends on no mark's duration. -/
theorem oldestOffset_closeNewest (marks : List Mark) (duration : Num) :
    oldestOffset (closeNewest marks duration) = oldestOffset marks := by
  induction marks using List.reverseRecOn with
  | nil => rfl
  | append_singleton older m _ =>
    rw [closeNewest_append]
    cases older <;> rfl

theorem Keeps.closeMark (h : Keeps s t) : Keeps s t.closeMark :=
  h.modLogMarks _ fun ⟨few, tail, _⟩ =>
    ⟨by rw [closeNewest_length]; exact few, by rw [oldestOffset_closeNewest]; exact tail⟩

theorem Keeps.dropForBoundary (h : Keeps s t) : Keeps s t.dropForBoundary := by
  unfold State.dropForBoundary
  split
  · exact ((((h.dropMarks 1).report _ _).compareLowSpace).oweWalk)
  · exact h

theorem State.compareLowSpace_marks (s : State) : s.compareLowSpace.log.marks = s.log.marks := by
  unfold State.compareLowSpace
  repeat' split
  all_goals rfl

/-- After the drop of R38 there is room for the new mark. -/
theorem State.dropForBoundary_room (s : State) (few : s.log.marks.length ≤ 8) :
    s.dropForBoundary.log.marks.length < 8 := by
  unfold State.dropForBoundary
  split
  · simp only [State.oweWalk_log, State.compareLowSpace_marks, State.report_log]
    simp [State.dropMarks]; omega
  · next room => exact Nat.lt_of_not_le room

theorem Keeps.openMark (h : Keeps s t) (reserved : Num) : Keeps s (t.dropForBoundary.openMark reserved) := by
  obtain ⟨port, stream, events, marks⟩ := h.dropForBoundary
  refine ⟨port, stream, events, fun k => ⟨?_, rfl, (marks k).2.2⟩⟩
  have room := t.dropForBoundary_room (h.2.2.2 k).1
  simp only [State.openMark, State.modLog_log, LogController.appendMark, List.length_append, List.length_singleton]
  exact room

theorem Keeps.boundary (h : Keeps s t) (reserved : Num) (room : headerRoom t.stream = true) :
    Keeps s (t.boundary reserved) :=
  ((((h.closeMark.openMark reserved).clearCaptureSet.restartTimer.placeHeader .checkpoint
    (by simpa using room)).abandonCaptures _).mapEntries _ _).createAllDeferred

/-! ## The stream's responses -/

theorem Keeps.persistRecord (h : Keeps s t) (r : Record) : Keeps s (t.persistRecord r) :=
  ((((h.modStream _ fun few => (headerWrites_filter_le _ _).trans few).modStaging _ (List.length_filter_le _ _)).modLog _ rfl
    rfl).mapEntries _ _).oweWalk

theorem Staging.freeRecords_length_le (b : Staging) (records : List Record) :
    (b.freeRecords records).runSlots.length ≤ b.runSlots.length := by
  induction records generalizing b with
  | nil => exact le_refl _
  | cons r rest ih => exact (ih _).trans (List.length_filter_le _ _)

theorem LogController.rewind_marks (l : LogController) (records : List Record) : (l.rewind records).marks = l.marks := by
  cases records <;> rfl

theorem LogController.rewind_tail (l : LogController) (records : List Record) : (l.rewind records).tail = l.tail := by
  cases records <;> rfl

theorem Keeps.truncateStream (h : Keeps s t) (failed : StreamItem → Bool) : Keeps s (t.truncateStream failed) := by
  refine (((h.modStream _ fun few => ?_).modPort _ fun law => ?_).modStaging _ ?_).modLog _ ?_ ?_
  · exact ((List.takeWhile_sublist _).filter _).length_le.trans few
  · exact ⟨by rw [List.length_map]; exact law.1, law.2⟩
  · exact Staging.freeRecords_length_le _ _
  · exact LogController.rewind_marks _ _
  · exact LogController.rewind_tail _ _

theorem Keeps.dropLatches (h : Keeps s t) : Keeps s t.dropLatches := h.dropCheckpointLatch.dropFaultLatch _

theorem Keeps.endInLogFault (h : Keeps s t) : Keeps s t.endInLogFault :=
  (((h.modLog _ rfl rfl).withRollback none).withoutScan).withMaint none

theorem Keeps.enterLogFault (h : Keeps s t) (item : StreamItem) (failed : StreamItem → Bool) :
    Keeps s (t.enterLogFault item failed) :=
  (((((((((h.truncateStream failed).clearCaptureSet).endInLogFault).post _ _ _ _).refuseEntries _ _).modLog _ rfl
    rfl).releaseHolds .rollback).compareLowSpace).dropLatches.oweWalk).refreshPorts

theorem Keeps.endOperation (h : Keeps s t) (kind : EventKind) (detail : Detail) : Keeps s (t.endOperation kind detail) :=
  ((h.report kind detail).setEngine .armed).finishArmed

theorem Keeps.endRollback (h : Keeps s t) : Keeps s t.endRollback :=
  ((((h.report _ _).setEngine .armed).withRollback none).releaseHolds .rollback).finishArmed

theorem Keeps.endAttach (h : Keeps s t) : Keeps s t.endAttach :=
  ((((h.setEngine .armed).report _ _).withoutScan).restartTimer).cancelAtLoggingStart.finishArmed

theorem Keeps.finishHeader (h : Keeps s t) (purpose : HeaderPurpose) : Keeps s (t.finishHeader purpose) := by
  cases purpose with
  | recycle => exact h.walkStalled
  | checkpoint => exact h.endOperation _ _
  | release => exact h.endOperation _ _
  | discard => exact h.endOperation _ _
  | rollback => exact h.endRollback
  | attach => exact h.endAttach

theorem Keeps.persistHeader (h : Keeps s t) (generation : Num) (purpose : HeaderPurpose) :
    Keeps s (t.persistHeader generation purpose) :=
  (h.modStream _ fun few => (headerWrites_filter_le _ _).trans few).finishHeader purpose

/-! ## Rollback -/

theorem marksFrom_suffix (marks : List Mark) (epoch : Num) : marksFrom marks epoch <:+ marks.reverse :=
  List.dropWhile_suffix _

/-- The comparison series completes only at a mark of the target epoch (R109). -/
theorem compareMarks_complete (target : Num) (position : Nat) (bound : Num) (last : Option Num) (marks : List Mark)
    (next : ReplayNext) (found : compareMarks target position bound last marks = some next)
    (complete : next.complete = true) : ∃ m ∈ marks, m.epoch = target := by
  induction marks generalizing bound last with
  | nil => cases found
  | cons m older ih =>
    unfold compareMarks at found
    split at found
    · cases found; cases complete
    · split at found
      · next h => exact ⟨m, List.mem_cons_self, h⟩
      · obtain ⟨m', mem, h⟩ := ih _ _ found
        exact ⟨m', List.mem_cons_of_mem _ mem, h⟩

/-- A mark list is cut at the newest mark of an epoch it holds. -/
theorem marksFrom_of_mem (marks : List Mark) (epoch : Num) (mem : ∃ m ∈ marks, m.epoch = epoch) :
    ∃ older m newer, marks = older ++ m :: newer ∧ marksFrom marks epoch = m :: older.reverse := by
  have ⟨m, older, split⟩ : ∃ m older, marksFrom marks epoch = m :: older := by
    obtain ⟨m, mem, found⟩ := mem
    refine List.ne_nil_iff_exists_cons.1 fun none => ?_
    have passed := List.dropWhile_eq_nil_iff.1 none m (List.mem_reverse.2 mem)
    simp [found] at passed
  obtain ⟨newer, whole⟩ := marksFrom_suffix marks epoch
  refine ⟨older.reverse, m, newer.reverse, ?_, by rw [split, List.reverse_reverse]⟩
  rw [← List.reverse_inj, ← whole, split]
  simp

theorem Keeps.completeRollback (h : Keeps s t) (cursor : RollbackCursor) (replay : Replay)
    (target : ∃ m ∈ t.log.marks, m.epoch = cursor.target) : Keeps s (t.completeRollback cursor replay) := by
  refine (((((h.modLogMarks _ fun ⟨few, tail, _⟩ => ?_).clearCaptureSet).restartTimer).mapEntries _ _).withRollback
    _).askHeader .rollback
  obtain ⟨older, m, newer, whole, cut⟩ := marksFrom_of_mem _ _ target
  simp only [completeMarks, cut, List.reverse_reverse, tail]
  rw [whole] at few ⊢
  constructor
  · simp at few ⊢; omega
  · cases older <;> rfl

theorem Keeps.standHalted (h : Keeps s t) (cursor : RollbackCursor) (replay : Replay) :
    Keeps s (t.standHalted cursor replay) := h

theorem Keeps.recordBad (h : Keeps s t) (cursor : RollbackCursor) (replay : Replay) (position : Nat)
    (reason : BadReason) : Keeps s (t.recordBad cursor replay position reason) :=
  (h.standHalted cursor replay).post _ _ _ _

theorem Keeps.readRecord (h : Keeps s t) (cursor : RollbackCursor) (replay : Replay) :
    Keeps s (t.readRecord cursor replay) := by
  unfold State.readRecord
  dsimp only
  split
  · exact h.recordBad _ _ _ _
  · exact (h.withRollback _).offerMaint _ _

theorem Keeps.advanceReplay (h : Keeps s t) (cursor : RollbackCursor) (replay : Replay) :
    Keeps s (t.advanceReplay cursor replay) := by
  unfold State.advanceReplay
  split
  · exact h
  · next next found =>
    dsimp only
    split
    · next complete =>
      obtain ⟨m, mem, target⟩ := compareMarks_complete _ _ _ _ _ _ found complete
      exact h.completeRollback _ _ ⟨m, List.mem_reverse.1 ((marksFrom_suffix _ _).subset mem), target⟩
    · exact h.readRecord _ _

theorem Keeps.startReplay (h : Keeps s t) (cursor : RollbackCursor) : Keeps s (t.startReplay cursor) :=
  (h.setEngine .rollingBack).advanceReplay _ _

theorem Keeps.haltReplay (h : Keeps s t) (cursor : RollbackCursor) (replay : Replay) :
    Keeps s (t.haltReplay cursor replay) := (h.standHalted cursor replay).report _ _

theorem Keeps.moveLog (h : Keeps s t) (r : RecordHeader) (position : Nat) : Keeps s (t.moveLog r position) :=
  (h.modLog _ rfl rfl).compareLowSpace.oweWalk

theorem Keeps.goOn (h : Keeps s t) (cursor : RollbackCursor) (replay : Replay) : Keeps s (t.goOn cursor replay) := by
  unfold State.goOn
  split
  · exact h.haltReplay cursor replay
  · exact (h.withRollback _).advanceReplay cursor replay

theorem Keeps.moveBack (h : Keeps s t) (cursor : RollbackCursor) (replay : Replay) (r : RecordHeader) (position : Nat) :
    Keeps s (t.moveBack cursor replay r position) := (h.moveLog r position).goOn _ _

theorem Keeps.applyRecord (h : Keeps s t) (cursor : RollbackCursor) (replay : Replay) (r : RecordHeader) (position : Nat)
    (bytes : List Byte) : Keeps s (t.applyRecord cursor replay r position bytes) := by
  unfold State.applyRecord
  split
  · split
    · exact (h.post _ _ _ _).moveBack _ _ _ _
    · exact (h.withRollback _).offerMaint _ _
  · exact h.moveBack _ _ _ _

theorem Keeps.recordRead (h : Keeps s t) (cursor : RollbackCursor) (replay : Replay) (position length : Nat)
    (bytes : List Byte) : Keeps s (t.recordRead cursor replay position length bytes) := by
  unfold State.recordRead
  split
  · exact h
  · split
    · exact h.recordBad _ _ _ _
    · exact h.applyRecord _ _ _ _ _

theorem Keeps.restored (h : Keeps s t) (cursor : RollbackCursor) (replay : Replay) (r : RecordHeader) (position : Nat)
    (result : WriteResult) : Keeps s (t.restored cursor replay r position result) := by
  cases result with
  | okay => exact h.moveBack _ _ _ _
  | error => exact (h.post _ _ _ _).moveBack _ _ _ _

/-! ## FORMAT, ATTACH and DETACH -/

theorem Keeps.giveUp (h : Keeps s t) : Keeps s (t.modLog LogController.giveUp) :=
  h.modLogMarks _ fun _ => ⟨Nat.zero_le 8, rfl⟩

theorem Keeps.acceptFormat (h : Keeps s t) : Keeps s t.acceptFormat :=
  (h.modLogMarks LogController.formatted fun _ => ⟨Nat.le_add_left 1 7, rfl⟩).offerMaint _ _

theorem Keeps.finishFormat (h : Keeps s t) : Keeps s t.finishFormat :=
  ((h.report _ _).setEngine .armed).cancelAtLoggingStart.finishArmed

theorem Keeps.failFormat (h : Keeps s t) (copy : CopyName) : Keeps s (t.failFormat copy) :=
  ((h.post _ _ _ _).giveUp.setEngine .detached).dropFaultLatch .detached

theorem Keeps.acceptAttach (h : Keeps s t) : Keeps s t.acceptAttach := by
  refine (((h.setEngine .scanning).restartTimer).withScan _ fun _ c some => ?_).offerMaint _ _
  cases some
  exact ⟨Nat.zero_le 8, fun _ none => nomatch none⟩

theorem Keeps.failAttach (h : Keeps s t) (address : Option Num) (reason : AttachFailure) :
    Keeps s (t.failAttach address reason) :=
  ((h.post _ _ _ _).withoutScan.setEngine .detached).dropFaultLatch .detached

/-- A copy that is read back holds at most 8 marks (R201). -/
theorem parseCopy_marks_length (bytes : List Byte) : (parseCopy bytes).marks.length ≤ 8 := by
  simp only [parseCopy]
  split
  · next few => rw [List.length_map, List.length_range]; exact few
  · exact Nat.zero_le 8

theorem validCopy_marks_length {S : Nat} {name : CopyName} {bytes : List Byte} {copy : HeaderCopy}
    (valid : validCopy S name bytes = some copy) : copy.marks.length ≤ 8 := by
  simp only [validCopy] at valid
  split at valid
  · cases valid; exact parseCopy_marks_length bytes
  · cases valid

theorem chooseCopy_eq {a b : Option HeaderCopy} {copy : HeaderCopy} (chosen : chooseCopy a b = some copy) :
    a = some copy ∨ b = some copy := by
  cases a with
  | none => exact .inr chosen
  | some a =>
    cases b with
    | none => exact .inl chosen
    | some b =>
      simp only [chooseCopy] at chosen
      split at chosen
      · exact .inr chosen
      · exact .inl chosen

theorem Keeps.readWalkHeader (h : Keeps s t) (c : ScanCursor) (law : MarkLaw t → ScanLaw c) :
    Keeps s (t.readWalkHeader c) := by
  refine (h.withScan _ fun marks x some => ?_).offerMaint _ _
  cases some
  exact law marks

theorem Keeps.startWalk (h : Keeps s t) (chosen : HeaderCopy) (few : MarkLaw t → chosen.marks.length ≤ 8) :
    Keeps s (t.startWalk chosen) := by
  unfold State.startWalk
  split
  · exact h
  · exact h.readWalkHeader _ fun law => ⟨few law, fun _ none => nomatch none⟩

theorem Keeps.postDropped (h : Keeps s t) (dropped : Option Num) : Keeps s (t.postDropped dropped) := by
  cases dropped with
  | none => exact h
  | some epoch => exact h.report _ _

theorem appendWorking_length (working : List Mark) (m : Mark) (few : working.length ≤ 8) :
    (appendWorking working m).1.length ≤ 8 := by
  unfold appendWorking
  split
  · simp; omega
  · next room => rw [List.length_append]; exact Nat.lt_of_not_le room

theorem extendWorking_length (working : List Mark) (h : RecordHeader) (position : Nat) (few : working.length ≤ 8) :
    (extendWorking working h position).1.length ≤ 8 := by
  unfold extendWorking
  split
  · exact appendWorking_length _ _ few
  · exact few

theorem attachFloors_length (c : ScanCursor) (chosen : HeaderCopy) (few : c.working.length ≤ 8) :
    (attachFloors c chosen).2.2.1.length ≤ 8 := by
  unfold attachFloors
  dsimp only
  split
  · exact appendWorking_length _ _ few
  · exact few

@[simp] theorem State.postDropped_scan (s : State) (dropped : Option Num) : (s.postDropped dropped).scan = s.scan := by
  cases dropped <;> rfl

/-- The scan cursor of a state under the mark law is under the scan law. -/
theorem MarkLaw.scan {c : ScanCursor} (law : MarkLaw t) (scan : t.scan = some c) : ScanLaw c := law.2.2 c scan

theorem Keeps.acceptWalked (h : Keeps s t) (c : ScanCursor) (r : RecordHeader) (scan : t.scan = some c) :
    Keeps s (t.acceptWalked c r) := by
  refine (h.postDropped _).readWalkHeader _ fun law => ?_
  have ⟨few, copies⟩ := law.scan (c := c) (by simpa using scan)
  exact ⟨extendWorking_length _ _ _ few, copies⟩

theorem Keeps.takeLog (h : Keeps s t) (c : ScanCursor) (chosen : HeaderCopy) (scan : t.scan = some c) :
    Keeps s (t.modLog fun l => l.takeLog c chosen) :=
  h.modLogMarks _ fun law => ⟨attachFloors_length c chosen (law.scan scan).1, rfl⟩

theorem Keeps.completeAttach (h : Keeps s t) (c : ScanCursor) (scan : t.scan = some c) :
    Keeps s (t.completeAttach c) := by
  unfold State.completeAttach
  split
  · exact h
  · next chosen _ =>
    refine ((((h.postDropped _).takeLog c chosen (by simpa using scan)).compareLowSpace).withScan _
      fun law x some => ?_).askHeader .attach
    have ⟨few, copies⟩ := law.scan (c := c) (by simpa using scan)
    cases some
    exact ⟨attachFloors_length c chosen few, copies⟩

theorem Keeps.readCopyB (h : Keeps s t) (c : ScanCursor) (bytes : List Byte) (scan : t.scan = some c) :
    Keeps s (t.readCopyB c bytes) := by
  refine (h.withScan _ fun law x some => ?_).offerMaint _ _
  cases some
  exact ⟨(law.scan scan).1, fun copy valid => validCopy_marks_length valid⟩

theorem Keeps.chooseAndWalk (h : Keeps s t) (c : ScanCursor) (bytes : List Byte) (scan : t.scan = some c) :
    Keeps s (t.chooseAndWalk c bytes) := by
  unfold State.chooseAndWalk
  split
  · exact h.failAttach _ _
  · next copy chosen =>
    refine h.startWalk copy fun law => ?_
    rcases chooseCopy_eq chosen with a | b
    · exact (law.scan scan).2 copy a
    · exact validCopy_marks_length b

theorem Keeps.copyReturned (h : Keeps s t) (c : ScanCursor) (copy : CopyName) (response : MemResponse)
    (scan : t.scan = some c) : Keeps s (t.copyReturned c copy response) := by
  cases response with
  | error => exact h.failAttach _ _
  | okay bytes =>
    cases copy with
    | a => exact h.readCopyB c bytes scan
    | b => exact h.chooseAndWalk c bytes scan

theorem Keeps.headerWalked (h : Keeps s t) (c : ScanCursor) (bytes : List Byte) (scan : t.scan = some c) :
    Keeps s (t.headerWalked c bytes) := by
  unfold State.headerWalked
  dsimp only
  split
  · split
    · refine (h.withScan _ fun law x some => ?_).offerMaint _ _
      cases some
      have kept : ScanLaw c := law.scan scan
      exact kept
    · split
      · exact h.acceptWalked _ _ scan
      · exact h.completeAttach _ scan
  · exact h.completeAttach _ scan

theorem Keeps.recordWalked (h : Keeps s t) (c : ScanCursor) (r : RecordHeader) (bytes : List Byte)
    (scan : t.scan = some c) : Keeps s (t.recordWalked c r bytes) := by
  unfold State.recordWalked
  split
  · exact h.acceptWalked _ _ scan
  · exact h.completeAttach _ scan

theorem Keeps.acceptDetach (h : Keeps s t) : Keeps s t.acceptDetach := h

theorem Keeps.finishDetach (h : Keeps s t) : Keeps s t.finishDetach :=
  ((((h.report _ _).clearCaptureSet).giveUp).setEngine .detached).dropFaultLatch .detached

/-! ## Epochs, faults and the host port -/

theorem Keeps.checkpointStrobe (h : Keeps s t) (source : CheckpointSource) : Keeps s (t.checkpointStrobe source) := by
  unfold State.checkpointStrobe
  split
  case h_1 => exact h.acceptCheckpoint
  case h_2 => exact h.setCheckpointLatch true
  case h_3 => exact h.setCheckpointLatch true
  all_goals exact h.report _ _

theorem Keeps.acceptRelease (h : Keeps s t) (n : Nat) : Keeps s (t.acceptRelease n) :=
  ((((h.dropMarks n).compareLowSpace).walk).askHeader .release).setEngine .updating

theorem Keeps.restartUncommitted (h : Keeps s t) (epoch : Num) : Keeps s (t.restartUncommitted epoch) :=
  ((h.abandonCaptures _).mapEntries _ _).releaseHolds .rollback

theorem Keeps.acceptDiscard (h : Keeps s t) : Keeps s t.acceptDiscard :=
  ((((((h.withRollback none).modLogMarks LogController.discarded fun _ =>
    ⟨Nat.le_add_left 1 7, rfl⟩).clearCaptureSet).restartUncommitted _).compareLowSpace.oweWalk).askHeader
      .discard).setEngine .updating

theorem Keeps.timerAction (h : Keeps s t) : Keeps s t.timerAction := by
  unfold State.timerAction
  split
  · exact h
  · exact h.checkpointStrobe _
  · exact h.modLog _ rfl rfl

theorem Keeps.faultRollback (h : Keeps s t) : Keeps s t.faultRollback := by
  unfold State.faultRollback
  split
  case h_1 => exact h.acceptFaultRollback
  case h_2 => exact h.report _ _
  case h_3 => exact h
  all_goals exact h.setFaultLatch true

theorem Keeps.setFreeze (h : Keeps s t) : Keeps s t.setFreeze := h.modLog _ rfl rfl

theorem Keeps.faultStrobe (h : Keeps s t) : Keeps s t.faultStrobe := by
  have seen := h.report .faultSeen (.action t.log.policy.faultAction)
  unfold State.faultStrobe
  dsimp only
  split
  · exact seen
  · split
    · exact seen
    · exact seen.setFreeze
    · exact seen.setFreeze.faultRollback

theorem Keeps.thaw (h : Keeps s t) : Keeps s t.thaw := by
  unfold State.thaw
  split
  · exact (h.modLog _ rfl rfl).releaseHolds .freeze
  · exact h

theorem Keeps.leaveOrdered (h : Keeps s t) (e : Entry) : Keeps s (t.leaveOrdered e) := by
  have logged : Keeps s (if t.log.freeze then t.holdEntry e .freeze else t.decideCapture e) := by
    split <;> exact h
  unfold State.leaveOrdered State.leaveLoggedWrite
  split
  · split
    · exact h
    · split
      case h_1 | h_2 | h_3 => exact logged
      case h_11 => exact h.refuseEntries _ _
      all_goals exact h
  · split <;> exact h

theorem Keeps.takeRequest (h : Keeps s t) (r : HostRequest) : Keeps s (t.takeRequest r) := by
  unfold State.takeRequest
  dsimp only
  split
  · exact (h.withWindow _).post _ _ _ _
  · split
    · exact (h.withWindow _).postRefused _ _
    · split
      · exact (h.withWindow _).postRefused _ _
      · split <;> exact h.withWindow _

theorem Keeps.postDataError (h : Keeps s t) (e : Entry) (response : MemResponse) :
    Keeps s (t.postDataError e response) := by
  cases response with
  | okay data => exact h
  | error => exact h.post _ _ _ _

theorem Keeps.setPolicies (h : Keeps s t) (p : Policy) : Keeps s (t.setPolicies p) := by
  have walked (c : Bool) {u : State} (k : Keeps s u) : Keeps s (u.walkUnless c) := by
    cases c
    · exact k.walk
    · exact k
  have compared (c : Bool) {u : State} (k : Keeps s u) : Keeps s (u.compareUnless c) := by
    cases c
    · exact k.compareLowSpace
    · exact k
  exact compared _ (walked _ (h.modLog _ rfl rfl))

/-! ## The Memory Port and the resets -/

theorem State.bypassed_le (s : State) : s.bypassed ≤ 4 := by
  unfold State.bypassed
  split
  · exact Nat.min_le_left _ _
  · exact Nat.zero_le 4

theorem Keeps.issue (h : Keeps s t) (claimant : Claimant) (owner : Owner) (request : MemRequest) (bypass : Nat)
    (free : t.port.outstanding.length < 4) (few : bypass ≤ 4) : Keeps s (t.issue claimant owner request bypass) :=
  h.modPort (fun _ => _) fun _ => ⟨by simpa using free, few⟩

/-- A grant changes no item of the stream but the issued flag of one. -/
theorem headerWrites_markIssued (item : StreamItem) (items : List StreamItem) :
    headerWrites (markIssued item items) = headerWrites items := by
  induction items with
  | nil => rfl
  | cons i behind ih =>
    unfold markIssued
    split
    · have same : StreamItem.isHeader { i with issued := true } = i.isHeader := rfl
      simp only [headerWrites, List.filter_cons, same]
      split <;> rfl
    · simp only [headerWrites, List.filter_cons] at ih ⊢
      split <;> simp [ih]

theorem Keeps.grant (h : Keeps s t) (g : Grant) (free : t.port.outstanding.length < 4) : Keeps s (t.grant g) := by
  cases g with
  | log item =>
    exact (h.issue _ _ _ _ free t.bypassed_le).modStream (fun _ => markIssued item t.stream) fun few => by
      rw [headerWrites_markIssued]; exact few
  | maint offer => exact (h.issue _ _ _ _ free t.bypassed_le).withMaint none
  | capture run => exact (h.issue _ _ _ _ free t.bypassed_le).mapEntries _ _
  | host entry => exact (h.issue _ _ _ _ free (Nat.zero_le 4)).updateEntry _ _ _

theorem Keeps.resetTo (s : State) (outstanding : List Outstanding) (low : Bool)
    (few : PortLaw s → outstanding.length ≤ 4) : Keeps s (s.resetTo outstanding low) :=
  ⟨fun law => ⟨few law, Nat.zero_le 4⟩, fun _ => ⟨Nat.zero_le 8, Nat.zero_le 7⟩, fun _ => Nat.zero_le 8,
    fun _ => ⟨Nat.zero_le 8, rfl, fun _ none => nomatch none⟩⟩

theorem Keeps.resetToOrphans (s : State) (low : Bool) :
    Keeps s (s.resetTo (s.port.outstanding.map Outstanding.orphaned) low) :=
  Keeps.resetTo s _ low fun law => by rw [List.length_map]; exact law.1

/-! ## Every command -/

/-- Whatever state an outcome leads to keeps the laws of `s`. -/
def Kept (s : State) (o : Host.Outcome State Fault Refusal) : Prop := ∀ t, o = .next t → Keeps s t

theorem Kept.next (h : Keeps s t) : Kept s (.next t) := by
  rintro _ ⟨⟩
  exact h

theorem Keeps.onFrame (take : State → State) (taken : Keeps s (take s)) : Keeps s (s.onFrame take) := by
  unfold State.onFrame
  split
  · exact .refl s
  · exact taken

theorem execHostRequestAccept_kept (arriving : Option HostRequest) (s : State) :
    Kept s (execHostRequestAccept arriving s) := by
  have arrived : Keeps s (s.arrive arriving) := (Keeps.refl s).modHost _
  unfold execHostRequestAccept
  dsimp only
  split
  · exact .next arrived
  · split
    · exact .next arrived
    · split
      · exact .next ((arrived.withHost _).takeRequest _).refreshPorts
      · exact .next arrived

theorem execCaptureDecision_kept (s : State) : Kept s (execCaptureDecision s) := by
  unfold execCaptureDecision
  split
  · exact .next (.refl s)
  · exact .next ((Keeps.refl s).leaveOrdered _).refreshPorts

theorem execCaptureWalk_kept (s : State) : Kept s (execCaptureWalk s) := by
  refine .next ?_
  split
  · exact (Keeps.refl s).walk
  · exact .refl s

theorem execHeaderWritePlacement_kept (s : State) : Kept s (execHeaderWritePlacement s) := by
  unfold execHeaderWritePlacement
  split
  · exact .next (.refl s)
  · split
    · next room => exact .next (((Keeps.refl s).modLog _ rfl rfl).placeHeader _ room)
    · exact .next (.refl s)

theorem execMemoryGrant_kept (s : State) : Kept s (execMemoryGrant s) := by
  unfold execMemoryGrant
  split
  · exact .next (.refl s)
  · next free =>
    simp only [Bool.or_eq_true, decide_eq_true_eq, not_or, Nat.not_le] at free
    split
    · exact .next (.refl s)
    · exact .next ((Keeps.refl s).grant _ free.2)

theorem execCaptureReadResponse_kept (response : MemResponse) (s : State) :
    Kept s (execCaptureReadResponse response s) := by
  unfold execCaptureReadResponse
  split
  · split
    · split
      · split
        · exact .next ((Keeps.refl s).freeSlot.updateEntry _ _ _)
        · exact .next ((Keeps.refl s).freeSlot.createRecord _ _ _ _)
      · exact .next (.refl s)
    · exact .next (.refl s)
  · exact .next (.refl s)

theorem execAbandonedReadReturn_kept (response : MemResponse) (s : State) :
    Kept s (execAbandonedReadReturn response s) := by
  unfold execAbandonedReadReturn
  split
  · split
    · exact .next ((((Keeps.refl s).freeSlot.modStaging _ (List.length_filter_le _ _)).mapEntries _ _).oweWalk)
    · exact .next (.refl s)
  · exact .next (.refl s)

theorem execRecordWriteResponse_kept (result : WriteResult) (s : State) : Kept s (execRecordWriteResponse result s) := by
  unfold execRecordWriteResponse
  split
  · split
    · split
      · exact .next ((Keeps.refl s).freeSlot.persistRecord _)
      · exact .next (.refl s)
      · exact .next ((Keeps.refl s).freeSlot.enterLogFault _ _)
    · exact .next (.refl s)
  · exact .next (.refl s)

theorem execHeaderWriteResponse_kept (result : WriteResult) (s : State) : Kept s (execHeaderWriteResponse result s) := by
  unfold execHeaderWriteResponse
  split
  · split
    · split
      · exact .next ((Keeps.refl s).freeSlot.persistHeader _ _)
      · exact .next (.refl s)
      · exact .next ((Keeps.refl s).freeSlot.enterLogFault _ _)
    · exact .next (.refl s)
  · exact .next (.refl s)

theorem execDiscardedItemResponse_kept (result : WriteResult) (s : State) :
    Kept s (execDiscardedItemResponse result s) := by
  unfold execDiscardedItemResponse
  split
  · exact .next (Keeps.refl s).freeSlot
  · exact .next (.refl s)

/-- A boundary is due only while the stream has room for its header write (R37). -/
theorem State.boundaryDue_room {reserved : Num} (due : s.boundaryDue = some reserved) : headerRoom s.stream = true := by
  unfold State.boundaryDue at due
  split at due
  · next h => simp only [Bool.and_eq_true] at h; exact h.2
  · cases due

theorem execCheckpointBoundary_kept (s : State) : Kept s (execCheckpointBoundary s) := by
  unfold execCheckpointBoundary
  split
  · exact .next (.refl s)
  · next due => exact .next ((Keeps.refl s).boundary _ (State.boundaryDue_room due))

theorem execQuiesceComplete_kept (s : State) : Kept s (execQuiesceComplete s) := by
  unfold execQuiesceComplete
  split
  · exact .next (.refl s)
  · split
    · exact .next ((Keeps.refl s).startReplay _)
    · exact .next (.refl s)

theorem execRollbackRecordReadResponse_kept (response : MemResponse) (s : State) :
    Kept s (execRollbackRecordReadResponse response s) := by
  unfold execRollbackRecordReadResponse
  split
  · exact .next (.refl s)
  · split
    · split
      · split
        · exact .next ((Keeps.refl s).freeSlot.recordBad _ _ _ _)
        · exact .next ((Keeps.refl s).freeSlot.recordRead _ _ _ _ _)
      · exact .next (.refl s)
    · exact .next (.refl s)

theorem execRestoreWriteResponse_kept (result : WriteResult) (s : State) : Kept s (execRestoreWriteResponse result s) := by
  unfold execRestoreWriteResponse
  split
  · exact .next (.refl s)
  · split
    · split
      · exact .next ((Keeps.refl s).freeSlot.restored _ _ _ _ _)
      · exact .next (.refl s)
    · exact .next (.refl s)

theorem execFormatCopyWriteResponse_kept (result : WriteResult) (s : State) :
    Kept s (execFormatCopyWriteResponse result s) := by
  unfold execFormatCopyWriteResponse
  split
  · exact .next (.refl s)
  · exact .next ((Keeps.refl s).freeSlot.failFormat _)
  · exact .next ((Keeps.refl s).freeSlot.offerMaint _ _)
  · exact .next (Keeps.refl s).freeSlot.finishFormat

theorem execAttachHeaderReadResponse_kept (response : MemResponse) (s : State) :
    Kept s (execAttachHeaderReadResponse response s) := by
  unfold execAttachHeaderReadResponse
  split
  · exact .next (.refl s)
  · next c scan =>
    split
    · exact .next ((Keeps.refl s).freeSlot.copyReturned c _ _ scan)
    · split
      · exact .next ((Keeps.refl s).freeSlot.copyReturned c _ _ scan)
      · exact .next (.refl s)

theorem execWalkHeaderReadResponse_kept (response : MemResponse) (s : State) :
    Kept s (execWalkHeaderReadResponse response s) := by
  unfold execWalkHeaderReadResponse
  split
  · exact .next (.refl s)
  · next c scan =>
    split
    · split
      · exact .next ((Keeps.refl s).freeSlot.completeAttach c scan)
      · exact .next ((Keeps.refl s).freeSlot.headerWalked c _ scan)
    · exact .next (.refl s)

theorem execWalkRecordReadResponse_kept (response : MemResponse) (s : State) :
    Kept s (execWalkRecordReadResponse response s) := by
  unfold execWalkRecordReadResponse
  split
  · exact .next (.refl s)
  · next c scan =>
    split
    · exact .next (.refl s)
    · split
      · split
        · exact .next ((Keeps.refl s).freeSlot.completeAttach c scan)
        · exact .next ((Keeps.refl s).freeSlot.recordWalked c _ _ scan)
      · exact .next (.refl s)

theorem execHostAccessResponse_kept (response : MemResponse) (s : State) :
    Kept s (execHostAccessResponse response s) := by
  unfold execHostAccessResponse
  split
  · split
    · split
      · exact .next (((Keeps.refl s).freeSlot.updateEntry _ _ _).postDataError _ _).refreshPorts
      · exact .next (.refl s)
    · exact .next (.refl s)
  · exact .next (.refl s)

theorem execOrphanResponse_kept (response : MemResponse) (s : State) : Kept s (execOrphanResponse response s) := by
  unfold execOrphanResponse
  split
  · exact .next (.refl s)
  · split
    · exact .next (Keeps.refl s).freeSlot
    · exact .next (.refl s)

theorem execDetachComplete_kept (s : State) : Kept s (execDetachComplete s) := by
  refine .next ?_
  split
  · exact (Keeps.refl s).finishDetach
  · exact .refl s

theorem execResponseDelivery_kept (s : State) : Kept s (execResponseDelivery s) := by
  unfold execResponseDelivery
  split
  · exact .next (.refl s)
  · exact .next (((Keeps.refl s).withWindow _).withHost _).refreshPorts

theorem execHoldTimeout_kept (s : State) : Kept s (execHoldTimeout s) := by
  unfold execHoldTimeout
  split
  · exact .next (.refl s)
  · exact .next ((Keeps.refl s).refuseEntries _ _).refreshPorts

theorem execEpochTimer_kept (s : State) : Kept s (execEpochTimer s) := by
  unfold execEpochTimer
  split
  · exact .next (.refl s)
  · exact .next (((Keeps.refl s).modLog _ rfl rfl).report _ _).timerAction

theorem execCkptStrobe_kept (s : State) : Kept s (execCkptStrobe s) := by
  refine .next ?_
  split
  · exact .refl s
  · exact (Keeps.refl s).checkpointStrobe _

theorem execFaultStrobe_kept (s : State) : Kept s (execFaultStrobe s) := by
  refine .next ?_
  split
  · exact .refl s
  · exact (Keeps.refl s).faultStrobe

theorem execFrameDiscard_kept (bits : List Bool) (s : State) : Kept s (execFrameDiscard bits s) := by
  refine .next (.onFrame _ ?_)
  split
  · exact (Keeps.refl s).respond _ _
  · exact .refl s
  · exact .refl s

theorem execSetRegion_kept (index : Byte) (base size : Num) (mode mask : Byte) (s : State) :
    Kept s (execSetRegion index base size mode mask s) := by
  refine .next (.onFrame _ ?_)
  split
  · exact (Keeps.refl s).refuse _
  · split
    · exact (Keeps.refl s).refuse _
    · split
      · exact (Keeps.refl s).refuse _
      · split
        · exact (Keeps.refl s).refuse _
        · exact ((Keeps.refl s).withRegions _).respond _ _

theorem execClearRegion_kept (index : Byte) (s : State) : Kept s (execClearRegion index s) := by
  refine .next (.onFrame _ ?_)
  split
  · exact (Keeps.refl s).refuse _
  · split
    · exact (Keeps.refl s).refuse _
    · split
      · exact (Keeps.refl s).refuse _
      · exact ((Keeps.refl s).withRegions _).respond _ _

theorem execReadRegion_kept (index : Byte) (s : State) : Kept s (execReadRegion index s) := by
  refine .next (.onFrame _ ?_)
  split
  · exact (Keeps.refl s).refuse _
  · exact (Keeps.refl s).respond _ _

theorem execSetLog_kept (base size : Num) (s : State) : Kept s (execSetLog base size s) := by
  refine .next (.onFrame _ ?_)
  split
  · split
    · exact (Keeps.refl s).refuse _
    · split
      · exact (Keeps.refl s).refuse _
      · exact ((Keeps.refl s).modLog _ rfl rfl).respond _ _
  · exact (Keeps.refl s).refuse _

theorem Keeps.startInDetached (s : State) (accept : State → State)
    (accepted : Keeps s (accept (s.respond .started []))) : Keeps s (s.startInDetached accept) := by
  unfold State.startInDetached
  split
  · split
    · exact (Keeps.refl s).refuse _
    · exact accepted
  · exact (Keeps.refl s).refuse _

theorem execDetach_kept (s : State) : Kept s (execDetach s) := by
  refine .next (.onFrame _ ?_)
  split
  · exact ((Keeps.refl s).respond _ _).acceptDetach
  · exact (Keeps.refl s).refuse _

theorem execCheckpoint_kept (s : State) : Kept s (execCheckpoint s) := by
  refine .next (.onFrame _ ?_)
  split
  · exact ((Keeps.refl s).respond _ _).acceptCheckpoint
  · exact (Keeps.refl s).refuse _

theorem execRelease_kept (n : Byte) (s : State) : Kept s (execRelease n s) := by
  refine .next (.onFrame _ ?_)
  split
  · split
    · exact ((Keeps.refl s).respond _ _).acceptRelease _
    · exact (Keeps.refl s).refuse _
  · exact (Keeps.refl s).refuse _

theorem execDiscard_kept (s : State) : Kept s (execDiscard s) := by
  refine .next (.onFrame _ ?_)
  split
  · exact ((Keeps.refl s).respond _ _).acceptDiscard
  · exact (Keeps.refl s).refuse _

theorem execRollback_kept (depth : Byte) (s : State) : Kept s (execRollback depth s) := by
  refine .next (.onFrame _ ?_)
  split
  · split
    · exact ((Keeps.refl s).respond _ _).acceptRollback _
    · exact (Keeps.refl s).refuse _
  · exact (Keeps.refl s).refuse _

theorem Keeps.haltAt (h : Keeps s t) (cursor : RollbackCursor) (replay : Replay) : Keeps s (t.haltAt cursor replay) := by
  unfold State.haltAt
  split
  · exact h.haltReplay _ _
  · exact h
  · exact h.withRollback _

theorem execHalt_kept (s : State) : Kept s (execHalt s) := by
  refine .next (.onFrame _ ?_)
  split
  · dsimp only
    split
    · exact (Keeps.refl s).respond _ _
    · exact ((Keeps.refl s).respond _ _).haltAt _ _
  · exact (Keeps.refl s).refuse _

theorem execResume_kept (s : State) : Kept s (execResume s) := by
  refine .next (.onFrame _ ?_)
  split
  · dsimp only
    split
    · exact ((Keeps.refl s).respond _ _).setEngine _
    · exact (((Keeps.refl s).respond _ _).setEngine _).advanceReplay _ _
  · exact (Keeps.refl s).refuse _

theorem execSetPolicy_kept (logFull faultAction : Byte) (holdLimit : BitVec 16) (threshold : Byte)
    (prescaler : BitVec 16) (reference : Num) (timerAction : Byte) (s : State) :
    Kept s (execSetPolicy logFull faultAction holdLimit threshold prescaler reference timerAction s) := by
  refine .next (.onFrame _ ?_)
  split
  · exact (Keeps.refl s).refuse _
  · exact ((Keeps.refl s).respond _ _).setPolicies _

theorem execReadMark_kept (index : Byte) (s : State) : Kept s (execReadMark index s) := by
  refine .next (.onFrame _ ?_)
  split
  · exact (Keeps.refl s).refuse _
  · exact (Keeps.refl s).respond _ _

theorem execPopEvent_kept (s : State) : Kept s (execPopEvent s) := by
  refine .next (.onFrame _ ?_)
  split
  · exact (Keeps.refl s).refuse _
  · next rest queue =>
    refine ((Keeps.refl s).modEvents _ fun few => ?_).respond _ _
    rw [queue] at few
    exact (Nat.le_succ _).trans few

theorem execRst_kept (edge : RstEdge) (s : State) : Kept s (execRst edge s) := by
  cases edge with
  | falls => exact .next (.resetToOrphans s true)
  | rises => exact .next ((Keeps.refl s).withRst false)

/-- What a command does keeps the laws, one line for each row of the opcode table. -/
theorem exec_kept (c : Instr) (s : State) : Kept s (exec c s) := by
  have refl := Keeps.refl s
  cases c with
  | powerOn => exact .next (.resetTo s [] false fun _ => Nat.zero_le 4)
  | rst edge => exact execRst_kept edge s
  | hostRequestAccept arriving => exact execHostRequestAccept_kept arriving s
  | captureDecision => exact execCaptureDecision_kept s
  | captureWalk => exact execCaptureWalk_kept s
  | headerWritePlacement => exact execHeaderWritePlacement_kept s
  | memoryGrant => exact execMemoryGrant_kept s
  | captureReadResponse response => exact execCaptureReadResponse_kept response s
  | abandonedReadReturn response => exact execAbandonedReadReturn_kept response s
  | recordWriteResponse result => exact execRecordWriteResponse_kept result s
  | headerWriteResponse result => exact execHeaderWriteResponse_kept result s
  | discardedItemResponse result => exact execDiscardedItemResponse_kept result s
  | checkpointBoundary => exact execCheckpointBoundary_kept s
  | quiesceComplete => exact execQuiesceComplete_kept s
  | rollbackRecordReadResponse response => exact execRollbackRecordReadResponse_kept response s
  | restoreWriteResponse result => exact execRestoreWriteResponse_kept result s
  | formatCopyWriteResponse result => exact execFormatCopyWriteResponse_kept result s
  | attachHeaderReadResponse response => exact execAttachHeaderReadResponse_kept response s
  | walkHeaderReadResponse response => exact execWalkHeaderReadResponse_kept response s
  | walkRecordReadResponse response => exact execWalkRecordReadResponse_kept response s
  | hostAccessResponse response => exact execHostAccessResponse_kept response s
  | orphanResponse response => exact execOrphanResponse_kept response s
  | strayResponse response => exact .next refl
  | detachComplete => exact execDetachComplete_kept s
  | responseDelivery => exact execResponseDelivery_kept s
  | holdTimeout => exact execHoldTimeout_kept s
  | epochTimer => exact execEpochTimer_kept s
  | ckptStrobe => exact execCkptStrobe_kept s
  | faultStrobe => exact execFaultStrobe_kept s
  | frameDiscard bits => exact execFrameDiscard_kept bits s
  | nop => exact .next (.onFrame _ (refl.respond _ _))
  | readStatus => exact .next (.onFrame _ (refl.respond _ _))
  | setRegion index base size mode mask => exact execSetRegion_kept index base size mode mask s
  | clearRegion index => exact execClearRegion_kept index s
  | readRegion index => exact execReadRegion_kept index s
  | setLog base size => exact execSetLog_kept base size s
  | format => exact .next (.onFrame _ (.startInDetached s _ (refl.respond _ _).acceptFormat))
  | attach => exact .next (.onFrame _ (.startInDetached s _ (refl.respond _ _).acceptAttach))
  | detach => exact execDetach_kept s
  | checkpoint => exact execCheckpoint_kept s
  | release n => exact execRelease_kept n s
  | discard => exact execDiscard_kept s
  | rollback depth => exact execRollback_kept depth s
  | halt => exact execHalt_kept s
  | resume => exact execResume_kept s
  | freeze => exact .next (.onFrame _ (refl.respond _ _).setFreeze)
  | thaw => exact .next (.onFrame _ (refl.respond _ _).thaw)
  | setPolicy logFull faultAction holdLimit threshold prescaler reference timerAction =>
    exact execSetPolicy_kept logFull faultAction holdLimit threshold prescaler reference timerAction s
  | readPolicy => exact .next (.onFrame _ (refl.respond _ _))
  | readMark index => exact execReadMark_kept index s
  | popEvent => exact execPopEvent_kept s
  | clearSummary => exact .next (.onFrame _ ((refl.modEvents _ id).respond _ _))
  | restart => exact .next (.onFrame _ ((Keeps.resetToOrphans s false).respond _ _))
  | tick => exact .next ((refl.modLog LogController.tick rfl rfl).withWindow _)

/-- Every step keeps the laws: an idle step changes nothing, and any other takes a command. -/
theorem step_keeps (stepped : step s = .next t) : Keeps s t := by
  unfold step at stepped
  split at stepped
  · cases stepped; exact .refl s
  · exact ((Keeps.refl s).withPending _).trans (exec_kept _ _ t stepped)

/-- Settles O6: each capacity law is one of the laws that every step keeps. -/
theorem everyStepKeepsTheCapacityLaws : Obligations.EveryStepKeepsTheCapacityLaws := by
  intro s t stepped
  obtain ⟨port, stream, events, _⟩ := step_keeps stepped
  exact ⟨port, stream, events⟩

/-- Settles O8: the mark law is one of the laws that every step keeps. -/
theorem everyStepKeepsTheMarkLaw : Obligations.EveryStepKeepsTheMarkLaw := by
  intro s t marks stepped
  obtain ⟨_, _, _, law⟩ := step_keeps stepped
  exact law marks

end Sys2Proof.Machine
end

/-! # Responses that make or persist a record, and the low-space comparison (O42, O48, O49) -/

section
-- One proof after another: the threads of many at once outgrow the check's memory limit.
set_option Elab.async false
namespace Sys2Proof.Machine

/-- Two states are equal if every block is. A block that an update plainly leaves need not be named. -/
theorem State.eq_of_blocks {s t : State} (pending : s.pending = t.pending := by simp) (rstLow : s.rstLow = t.rstLow := by simp)
    (host : s.host = t.host := by simp) (window : s.window = t.window := by simp) (regions : s.regions = t.regions := by simp)
    (capture : s.capture = t.capture := by simp) (staging : s.staging = t.staging := by simp) (stream : s.stream = t.stream := by simp)
    (log : s.log = t.log := by simp) (rollback : s.rollback = t.rollback := by simp) (scan : s.scan = t.scan := by simp)
    (maintOffer : s.maintOffer = t.maintOffer := by simp) (port : s.port = t.port := by simp) (events : s.events = t.events := by simp)
    (link : s.link = t.link := by simp) : s = t := by
  cases s; cases t
  simp_all

theorem State.oldestRequest_eq {s : State} {o : Outstanding} {rest : List Outstanding}
    (outstanding : s.port.outstanding = o :: rest) (orphan : o.orphan = false) : s.oldestRequest = some o := by
  simp [State.oldestRequest, outstanding, orphan]

/-- The response to the oldest request is taken: the others stay outstanding (R155). -/
theorem State.freeSlot_eq {s : State} {o : Outstanding} {rest : List Outstanding}
    (outstanding : s.port.outstanding = o :: rest) :
    s.freeSlot = { s with port := { s.port with outstanding := rest } } := by
  simp [State.freeSlot, State.modPort, State.withPort, outstanding]

theorem State.mapEntries_all_window (s : State) (f : Entry → Entry) :
    (s.mapEntries (fun _ => true) f).window = s.window.map f := by
  simp [State.mapEntries]

/-- The entry of a key is the one changed (R76). -/
theorem State.updateEntry_window (s : State) (r : Requester) (tag : Tag) (f : Entry → Entry) :
    (s.updateEntry r tag f).window = s.window.map fun x => if x.requester = r ∧ x.tag = tag then f x else x := by
  simp [State.updateEntry, State.mapEntries, Entry.hasKey]

/-! ## A record persists (R18) -/

theorem WaitList.isEmpty_iff (w : WaitList) : w.isEmpty = true ↔ w.hit = none ∧ w.own = none := by
  simp [WaitList.isEmpty]

theorem Entry.persisted_eq (e : Entry) (seq : Num) :
    e.persisted seq = { e with
      waits := e.waits.remove seq
      phase := if e.phase = .awaitRecord ∧ (e.waits.remove seq).hit = none ∧ (e.waits.remove seq).own = none then .ready
        else e.phase } := by
  simp only [Entry.persisted, WaitList.isEmpty_iff]
  split <;> rfl

/-- The first item a test holds of is found behind items it does not hold of. -/
theorem find?_behind {α : Type} (p : α → Bool) (before behind : List α) (x : α) (none : ∀ y ∈ before, p y = false)
    (holds : p x = true) : (before ++ x :: behind).find? p = some x := by
  rw [List.find?_append, List.find?_eq_none.2 fun y mem => by simp [none y mem], Option.none_or,
    List.find?_cons_of_pos holds]

/-- The OKAY response to the write of an issued record persists it (R18). -/
theorem exec_recordWriteResponse_okay {s : State} {o : Outstanding} {rest : List Outstanding} {seq : Num}
    {item : StreamItem} {r : Record} (outstanding : s.port.outstanding = o :: rest) (orphan : o.orphan = false)
    (owner : o.owner = .record seq) (issued : issuedRecord s.stream seq = some item) (record : item.body = .record r) :
    exec (.recordWriteResponse .okay) s = .next (s.freeSlot.persistRecord r) := by
  obtain ⟨claimant, owner', request, orphan'⟩ := o
  cases owner
  simp [exec, execRecordWriteResponse, State.oldestRequest_eq outstanding orphan, issued, StreamItem.record?, record]

/-- Settles O42. The issued record is the one of its number, and only it leaves the stream. -/
theorem recordWriteOkayPersistsTheRecord : Obligations.RecordWriteOkayPersistsTheRecord := by
  intro s o rest r before behind outstanding orphan owner stream others seq
  have kept : ∀ i ∈ before ++ behind, (!i.isRecord r.header.seq) = true := fun i mem => by simp [others i mem]
  have own : StreamItem.isRecord { body := .record r, issued := true } r.header.seq = true := beq_self_eq_true _
  have issued : issuedRecord s.stream r.header.seq = some { body := .record r, issued := true } := by
    rw [issuedRecord, stream, find?_behind _ _ _ _ (fun i mem => by simp [others i (List.mem_append_left _ mem)])
      (by simp [own])]
  rw [exec_recordWriteResponse_okay outstanding orphan owner issued rfl, State.freeSlot_eq outstanding]
  refine congrArg _ (State.eq_of_blocks (capture := rfl) (staging := rfl) (log := rfl) (window := ?_) (stream := ?_))
  · exact (State.mapEntries_all_window _ _).trans (List.map_congr_left fun e _ => e.persisted_eq _)
  · calc s.stream.filter (fun i => !i.isRecord r.header.seq)
      _ = before.filter (fun i => !i.isRecord r.header.seq) ++ behind.filter fun i => !i.isRecord r.header.seq := by
        rw [stream, List.filter_append, List.filter_cons_of_neg (by simp [own])]
      _ = before ++ behind := by rw [← List.filter_append, List.filter_eq_self.2 kept]

/-! ## The low-space comparison (R12) -/

/-- With a percentage the indication follows used space, and LOG_LOW is posted only when it becomes set (R12). -/
theorem State.compareLowSpace_eq (s : State) (enabled : 0 < s.log.policy.threshold) :
    s.compareLowSpace = { s with
      log := { s.log with lowSpace := decide (s.log.thresholdBytes < s.log.usedSpace) }
      events :=
        if s.log.thresholdBytes < s.log.usedSpace ∧ s.log.lowSpace = false then s.events.post
          { kind := .logLow, epoch := s.log.currentEpoch, address := none, requester := none,
            detail := .number (num s.log.usedSpace) }
        else s.events } := by
  unfold State.compareLowSpace
  rw [if_neg enabled.ne']
  split
  · next low =>
    split
    · next was =>
      refine State.eq_of_blocks (log := ?_) (events := ?_)
      · rw [decide_eq_true low, ← was]
      · rw [if_neg fun ⟨_, clear⟩ => by simp [was] at clear]
    · next was =>
      refine State.eq_of_blocks (log := ?_) (events := ?_)
      · rw [decide_eq_true low]; rfl
      · rw [if_pos ⟨low, by simpa using was⟩]; rfl
  · next high =>
    refine State.eq_of_blocks (log := ?_) (events := ?_)
    · rw [decide_eq_false high]; rfl
    · rw [if_neg fun ⟨low, _⟩ => high low]; rfl

/-! ## The return of a capture read -/

/-- The return of a reading run's capture read defers the run before its epoch's boundary (R36), and else creates its
record (R65). -/
theorem exec_captureReadResponse {s : State} {o : Outstanding} {rest : List Outstanding} {e : Entry} {run : Run}
    (poison : Bool) (bytes : List Byte) (outstanding : s.port.outstanding = o :: rest) (orphan : o.orphan = false)
    (owner : o.owner = .capture run.id) (read : o.request.kind = .read) (length : bytes.length = o.request.length)
    (found : s.findRun run.id = some (e, run)) (reading : run.condition = .reading true) :
    exec (.captureReadResponse (if poison then .error else .okay bytes)) s =
      if s.log.reservedEpoch = some e.epoch then
        .next (s.freeSlot.updateEntry e.requester e.tag fun x =>
          x.setRun run.id (.deferred poison (if poison then [] else bytes)))
      else .next (s.freeSlot.createRecord e run poison (if poison then [] else bytes)) := by
  obtain ⟨claimant, owner', request, orphan'⟩ := o
  cases owner
  have fits : responseFits request (if poison then .error else .okay bytes) = true := by
    cases poison
    · have read : request.kind = .read := read
      have length : bytes.length = request.length := length
      simp [responseFits, read, length]
    · rfl
  have answer : captured (if poison then .error else .okay bytes) = (poison, if poison then [] else bytes) := by
    cases poison <;> rfl
  simp only [exec, execCaptureReadResponse, State.oldestRequest_eq outstanding orphan, found, fits, reading, State.deferRun,
    State.missesAll, answer, beq_self_eq_true, Bool.and_self, if_true, beq_iff_eq]

/-- Settles O49: the deferral is the first branch of the capture read's return, the comparison is `compareLowSpace_eq`. -/
theorem earlyReadDefersAndLowSpaceCompares : Obligations.EarlyReadDefersAndLowSpaceCompares := by
  constructor
  · intro s o rest e run poison bytes outstanding orphan owner read length found reading reserved
    rw [exec_captureReadResponse poison bytes outstanding orphan owner read length found reading, if_pos reserved,
      State.freeSlot_eq outstanding]
    exact congrArg _ (State.eq_of_blocks (window := State.updateEntry_window _ _ _ _))
  · intro s enabled t low
    have compared := s.compareLowSpace_eq enabled
    have used : low ↔ s.log.thresholdBytes < s.log.usedSpace := Iff.rfl
    refine ⟨?_, ?_, fun none => ?_, fun full clear => ?_⟩
    · simp only [t]; rw [compared]
    · simp only [t]; rw [compared]; simp [used]
    · simp only [t]; rw [compared]; exact if_neg (by rwa [← used])
    · simp only [t]; rw [compared]; exact if_pos ⟨full, clear⟩
end Sys2Proof.Machine
end

/-! # The record of a run (O48) -/

section
-- One proof after another: the threads of many at once outgrow the check's memory limit.
set_option Elab.async false
namespace Sys2Proof.Machine

/-- The low-space comparison looks at the Log Controller and the Event Queue alone, and changes no other block (R12). -/
theorem State.compareLowSpace_congr {s t : State} (log : s.log = t.log) (events : s.events = t.events) :
    s.compareLowSpace.log = t.compareLowSpace.log ∧ s.compareLowSpace.events = t.compareLowSpace.events := by
  unfold State.compareLowSpace
  simp only [← log]
  split
  · exact ⟨by simp [State.setLowSpace, log], events⟩
  · split
    · split
      · exact ⟨log, events⟩
      · simp [State.setLowSpace, State.report, State.post, State.withEvents, log, events]
    · exact ⟨by simp [State.setLowSpace, log], events⟩

@[simp] theorem State.compareLowSpace_currentEpoch (s : State) :
    s.compareLowSpace.log.currentEpoch = s.log.currentEpoch := by
  unfold State.compareLowSpace
  repeat' split
  all_goals rfl

theorem Entry.recordRun_eq (e : Entry) (id : Nat) (seq : Num) :
    e.recordRun id seq =
      (let runs := e.runs.map fun r => if r.id = id then { r with condition := .recorded } else r
      { e with
        runs := runs
        waits := { e.waits with own := keepGreater e.waits.own seq }
        phase := if ∃ r ∈ runs, r.unrecorded then e.phase else .awaitRecord }) := by
  simp only [Entry.recordRun, List.any_eq_true]
  split <;> rfl

/-- POISON_CAPTURED is posted exactly for a poisoned record (R66). -/
theorem State.postPoison_events (s : State) (h : RecordHeader) :
    (s.postPoison h).events =
      if h.poison then s.events.post
        { kind := .poisonCaptured, epoch := s.log.currentEpoch, address := some h.first, requester := some h.requester,
          detail := .number h.seq }
      else s.events := by
  unfold State.postPoison
  split <;> rfl

/-- What a data record's entry into the log changes (R65 steps 3 to 7). -/
theorem State.enterRecord_eq (s : State) (e : Entry) (run : Run) (r : Record) (taken : Nat) :
    s.enterRecord e run r taken =
      (let u := State.compareLowSpace { s with log := { s.log.advance r with reserved := s.log.reserved - run.charge } }
      { s with
        stream := s.stream ++ [{ body := .record r, issued := false }]
        staging := s.staging.fillSlot run.id r.header.seq
        log := u.log
        events :=
          if r.header.poison then u.events.post
            { kind := .poisonCaptured, epoch := s.log.currentEpoch, address := some r.header.first,
              requester := some r.header.requester, detail := .number r.header.seq }
          else u.events
        capture := { s.capture with
          set := insertRun s.capture.set run.granules r.header.seq
          walkOwed := s.capture.walkOwed || decide (taken + run.length < run.charge) }
        window := s.window.map fun x =>
          if x.requester = e.requester ∧ x.tag = e.tag then x.recordRun run.id r.header.seq else x }) := by
  have compared := State.compareLowSpace_congr
    (s := ((((s.appendRecord r).modStaging fun b => b.fillSlot run.id r.header.seq).modLog fun l =>
      { l with reserved := l.reserved - run.charge }).oweWalkIf (decide (taken + run.length < run.charge))))
    (t := { s with log := { s.log.advance r with reserved := s.log.reserved - run.charge } })
    (by simp [State.appendRecord]; rfl) (by simp)
  unfold State.enterRecord
  refine State.eq_of_blocks (window := ?_) (capture := ?_) (staging := ?_) (stream := ?_) (log := ?_) (events := ?_)
  · simp [State.updateEntry_window]
  · cases decide (taken + run.length < run.charge) <;> simp [State.oweWalkIf, State.oweWalk]
  · simp
  · simp [State.appendRecord]
  · simp [compared.1]
  · rw [State.postPoison_events]
    simp [compared.2]
    rfl

/-- A record that fits before the end of the ring needs no filler (R5). -/
theorem LogController.filler_eq_none (l : LogController) (L : Nat) (epoch : Num) (requester : Requester)
    (fits : L ≤ l.ringSize - l.writePos) : l.filler L epoch requester = none := if_neg (Nat.not_lt.2 fits)

/-- A record that would cross the end of the ring needs one that reaches it (R3, R5). -/
theorem LogController.filler_eq_some (l : LogController) (L : Nat) (epoch : Num) (requester : Requester)
    (crosses : l.ringSize - l.writePos < L) :
    l.filler L epoch requester = some
      { header := sealHeader { seq := l.nextSeq, epoch := epoch, first := 0, back := l.lastLength, count := 0,
                               poison := false, requester := requester, kind := .filler, check := 0 } []
        data := [], position := l.writePos, length := l.ringSize - l.writePos } := if_pos crosses

/-- A filler ends at the end of the ring. -/
theorem ringAdd_to_end (S p : Nat) (inside : p < S) : ringAdd S p (S - p) = 0 := by
  rw [ringAdd, Nat.add_sub_cancel' inside.le, Nat.mod_self]

/-- Settles O48. The filler, if one is needed, is placed first (`filled`); the record then enters the log as
`enterRecord_eq` says, with the header (`record_eq`) and the pointers (`after`) that the statement gives. -/
theorem captureReadCreatesTheRecord : Obligations.CaptureReadCreatesTheRecord := by
  intro s o rest e run poison bytes outstanding orphan owner read length bytes_length found reading reserved L S wraps gap
    data fillerHeader seq header filler record items u inside
  have data_eq : recordData run.count poison (if poison then [] else bytes) = data := by cases poison <;> rfl
  let v : State := { s with port := { s.port with outstanding := rest } }
  let placed : LogController := if wraps then s.log.advance filler else s.log
  have filler_eq : v.log.filler run.length e.epoch e.requester = if wraps then some filler else none := by
    by_cases crosses : wraps
    · rw [if_pos crosses]
      exact s.log.filler_eq_some _ _ _ (Nat.sub_lt_left_of_lt_add inside.le crosses)
    · rw [if_neg crosses]
      exact s.log.filler_eq_none _ _ _ (Nat.le_sub_of_add_le' (Nat.not_lt.1 crosses))
  have filled : v.appendFiller (if wraps then some filler else none) = { v with
      stream := s.stream ++ (if wraps then [filler] else []).map fun r => { body := .record r, issued := false }
      staging := { s.staging with filler := if wraps then some s.log.nextSeq else s.staging.filler }
      log := placed } := by
    by_cases crosses : wraps
    · simp only [placed, if_pos crosses]; rfl
    · simp only [placed, if_neg crosses, List.map_nil, List.append_nil]; rfl
  have taken_eq : fillerLength (if wraps then some filler else none) = if wraps then gap else 0 := by split <;> rfl
  have record_eq : placed.dataRecord run e.epoch e.requester poison data = record := by
    by_cases crosses : wraps
    · have start : ringAdd s.log.ringSize filler.position filler.length = 0 := ringAdd_to_end S s.log.writePos inside
      simp only [placed, record, header, seq, if_pos crosses, LogController.dataRecord, LogController.advance, start]
      rfl
    · simp only [placed, record, header, seq, if_neg crosses]; rfl
  have after : ({ placed.advance record with reserved := placed.reserved - run.charge } : LogController) =
      { s.log with
        nextSeq := seq + 1, writePos := (record.position + L) % S, lastLength := L / 16
        reserved := s.log.reserved - (L + (L - 16)) } := by
    by_cases crosses : wraps
    · simp only [placed, seq, if_pos crosses]; rfl
    · simp only [placed, seq, if_neg crosses]; rfl
  have epoch : placed.currentEpoch = s.log.currentEpoch := by simp only [placed]; split <;> rfl
  rw [exec_captureReadResponse poison bytes outstanding orphan owner read (bytes_length.trans length.symm) found reading,
    if_neg reserved, State.freeSlot_eq outstanding]
  refine congrArg _ ?_
  change v.createRecord e run poison (if poison then [] else bytes) = _
  rw [State.createRecord, data_eq, filler_eq]
  simp only [filled, taken_eq, record_eq, State.enterRecord_eq, after]
  have compared := State.compareLowSpace_congr (t := { s with log := { s.log with
      nextSeq := seq + 1, writePos := (record.position + L) % S, lastLength := L / 16
      reserved := s.log.reserved - (L + (L - 16)) } })
    (s := { v with
      stream := s.stream ++ (if wraps then [filler] else []).map fun r => { body := .record r, issued := false }
      staging := { s.staging with filler := if wraps then some s.log.nextSeq else s.staging.filler }
      log := { s.log with
        nextSeq := seq + 1, writePos := (record.position + L) % S, lastLength := L / 16
        reserved := s.log.reserved - (L + (L - 16)) } }) rfl rfl
  simp only [v] at compared ⊢
  refine State.eq_of_blocks (window := ?_) (capture := rfl) (staging := rfl) (stream := ?_) (log := compared.1)
    (events := ?_)
  · exact List.map_congr_left fun x _ => by rw [Entry.recordRun_eq]
  · simp only [items, List.map_append, List.append_assoc]; rfl
  · simp only [compared.2, epoch]; rfl

end Sys2Proof.Machine
end

/-! # The end of the attach walk (O33) -/

section
-- One proof after another: the threads of many at once outgrow the check's memory limit.
set_option Elab.async false
namespace Sys2Proof.Machine

/-- The oldest request, made for a maintenance step, is answered by a response that fits it (R150, R155). -/
theorem State.answersMaint_eq {s : State} {o : Outstanding} {rest : List Outstanding} {step : MaintStep}
    {response : MemResponse} (outstanding : s.port.outstanding = o :: rest) (orphan : o.orphan = false)
    (owner : o.owner = .maint step) (fits : responseFits o.request response = true) :
    s.answersMaint step response = true := by
  simp [State.answersMaint, State.oldestRequest_eq outstanding orphan, owner, fits]

/-- An ERROR on either walk read stops the walk (R136). -/
theorem exec_walkError {s : State} {o : Outstanding} {rest : List Outstanding} {c : ScanCursor} {command : Instr}
    (outstanding : s.port.outstanding = o :: rest) (orphan : o.orphan = false)
    (read : (o.owner = .maint .walkHeader ∧ command = .walkHeaderReadResponse .error) ∨
      (o.owner = .maint .walkRecord ∧ command = .walkRecordReadResponse .error ∧ c.examined ≠ none))
    (scan : s.scan = some c) : exec command s = .next (s.freeSlot.completeAttach c) := by
  rcases read with ⟨owner, rfl⟩ | ⟨owner, rfl, examined⟩
  · simp [exec, execWalkHeaderReadResponse, scan, State.answersMaint_eq (response := .error) outstanding orphan owner rfl]
  · obtain ⟨h, examined⟩ := Option.ne_none_iff_exists'.1 examined
    simp [exec, execWalkRecordReadResponse, scan, examined,
      State.answersMaint_eq (response := .error) outstanding orphan owner rfl]

/-- A list that takes a mark loses its oldest first if it holds 8 (R139, R140). -/
theorem appendWorking_eq (working : List Mark) (m : Mark) :
    appendWorking working m =
      ((if 8 ≤ working.length then working.drop 1 else working) ++ [m],
        if 8 ≤ working.length then some (oldestEpoch working) else none) := by
  change (if 8 ≤ working.length then _ else _) = _
  split <;> rfl

theorem State.postDropped_eq (s : State) (dropped : Prop) [Decidable dropped] (epoch : Num) :
    s.postDropped (if dropped then some epoch else none) = { s with
      events :=
        if dropped then s.events.post
          { kind := .epochDropped, epoch := s.log.currentEpoch, address := none, requester := none,
            detail := .number epoch }
        else s.events } := by
  split <;> rfl

@[simp] theorem State.compareLowSpace_generation (s : State) :
    s.compareLowSpace.log.generation = s.log.generation := by
  unfold State.compareLowSpace
  repeat' split
  all_goals rfl

/-- A header write asked for while the stream has room is placed at once (R16). -/
theorem State.askHeader_room (s : State) (purpose : HeaderPurpose) (room : headerWrites s.stream < 8) :
    s.askHeader purpose = { s with
      log := { s.log with generation := s.log.generation + 1 }
      stream := s.stream ++ [s.log.headerItem purpose] } :=
  if_pos ((headerRoom_iff _).2 room)

/-- A walk that stops completes the attach from the chosen copy (R140). -/
theorem State.completeAttach_eq {s : State} {c : ScanCursor} {chosen : HeaderCopy} (copy : c.chosen = some chosen) :
    s.completeAttach c =
      ((((s.postDropped (attachFloors c chosen).2.2.2).modLog fun l => l.takeLog c chosen).compareLowSpace).withScan
        (some (c.completed chosen))).askHeader .attach := by
  unfold State.completeAttach
  rw [copy]

/-- Settles O33. The floors are computed by whether a resumption mark is needed (`floors`); the log taken up from them is
the statement's (`taken`), so that the low-space comparison is made in the statement's state `u`. -/
theorem walkStopCompletesTheAttach : Obligations.WalkStopCompletesTheAttach := by
  intro s o rest c chosen command outstanding orphan read scan chosen_eq stream resumes full floorSeq floorEpoch resumption
    kept marks u
  rw [exec_walkError outstanding orphan read scan, State.freeSlot_eq outstanding]
  refine congrArg _ ?_
  have floors : attachFloors c chosen = (floorSeq, if resumes then floorEpoch + 1 else floorEpoch, marks,
      if full then some (oldestEpoch c.working) else none) := by
    have r' : resumes ↔ below c.expected chosen.nextSeq = true := .rfl
    by_cases r : below c.expected chosen.nextSeq = true
    · simp only [attachFloors, floorSeq, floorEpoch, marks, kept, full, resumption, r', r, if_true, true_and,
        appendWorking_eq, larger]
    · simp only [attachFloors, floorSeq, floorEpoch, marks, kept, full, resumption, r', r, larger]
      rfl
  have taken : s.log.takeLog c chosen = { s.log with
      marks := marks, tail := oldestOffset marks, writePos := c.position, durableHead := c.position
      lastLength := c.lastLength, nextSeq := floorSeq, nextEpoch := if resumes then floorEpoch + 1 else floorEpoch
      generation := chosen.generation, reserved := 0, logFull := false, lowSpace := false } := by
    simp only [LogController.takeLog, floors]
  have generation : u.log.generation = chosen.generation := State.compareLowSpace_generation _
  rw [State.completeAttach_eq chosen_eq]
  simp only [floors, ScanCursor.completed, State.postDropped_eq, State.modLog, State.withLog, taken]
  rw [State.askHeader_room _ _ (by simp [stream, headerWrites])]
  have unstreamed : u.stream = [] := (State.compareLowSpace_stream _).trans stream
  change ({ u with
    scan := some { c with step := .complete, working := marks, workingTail := oldestOffset marks, examined := none }
    log := { u.log with generation := u.log.generation + 1 }
    stream := u.stream ++ [u.log.headerItem .attach] } : State) = _
  rw [LogController.headerItem, generation, unstreamed]
  rfl

end Sys2Proof.Machine
end

/-! # Moving back over a record (O55) -/

section
-- One proof after another: the threads of many at once outgrow the check's memory limit.
set_option Elab.async false
namespace Sys2Proof.Machine

/-- A low-space comparison changes the indication and the events alone (R12). -/
theorem State.compareLowSpace_log (s : State) :
    s.compareLowSpace.log = { s.log with lowSpace := s.compareLowSpace.log.lowSpace } := by
  unfold State.compareLowSpace
  repeat' split
  all_goals rfl

/-- The comparison of a state that shares Log Controller and events with `t`. -/
theorem State.compareLowSpace_eq_with {s t : State} (log : s.log = t.log) (events : s.events = t.events) :
    s.compareLowSpace = { s with log := t.compareLowSpace.log, events := t.compareLowSpace.events } := by
  obtain ⟨log, events⟩ := State.compareLowSpace_congr log events
  rw [← log, ← events]
  exact State.eq_of_blocks

theorem State.compareLowSpace_log_field {α : Type} (f : LogController → α) (s : State)
    (same : ∀ (l : LogController) (b : Bool), f { l with lowSpace := b } = f l) : f s.compareLowSpace.log = f s.log := by
  rw [State.compareLowSpace_log]
  exact same _ _

/-- Outside SCANNING the current epoch is that of the newest mark (R30). -/
theorem LogController.currentEpoch_eq (l : LogController) (reported : l.engine ≠ .scanning) :
    l.currentEpoch = newestEpoch l.marks := by
  rw [LogController.currentEpoch, LogController.listedMarks_of_not_scanning l reported]
  rfl

/-! ## The comparison series (R109) -/

theorem marksFrom_eq (older newer : List Mark) (m : Mark) (epoch : Num) (here : m.epoch = epoch)
    (others : ∀ x ∈ newer, x.epoch ≠ epoch) : marksFrom (older ++ m :: newer) epoch = m :: older.reverse := by
  rw [marksFrom, List.reverse_append, List.reverse_cons, List.append_assoc,
    List.dropWhile_append_of_pos fun x mem => by simp [others x (List.mem_reverse.1 mem)]]
  simp [here]

/-- A completed rollback keeps the marks up to the target, which starts over at next sequence (R122). -/
theorem completeMarks_eq (older newer : List Mark) (m : Mark) (target nextSeq : Num) (here : m.epoch = target)
    (others : ∀ x ∈ newer, x.epoch ≠ target) :
    completeMarks (older ++ m :: newer) target nextSeq =
      older ++ [{ m with firstSeq := nextSeq, duration := 0, recovered := false }] := by
  simp [completeMarks, marksFrom_eq older newer m target here others]

section
variable {target : Num} {position : Nat} {bound : Num} {last : Option Num} {m : Mark} {older : List Mark}

/-- Short of the mark's offset a record of its epoch lies before the position. -/
theorem compareMarks_short (short : position ≠ m.offset) :
    compareMarks target position bound last (m :: older) =
      some { complete := false, span := m.epoch, bound := bound, last := last } := if_pos short

/-- At the target mark's offset the replay is complete. -/
theorem compareMarks_reached (here : position = m.offset) (epoch : m.epoch = target) :
    compareMarks target position bound last (m :: older) =
      some { complete := true, span := m.epoch, bound := bound, last := last } := by
  simp [compareMarks, here, epoch]

/-- At another mark's offset the next older mark is compared. -/
theorem compareMarks_cross (here : position = m.offset) (epoch : m.epoch ≠ target) :
    compareMarks target position bound last (m :: older) = compareMarks target position m.firstSeq none older := by
  simp [compareMarks, here, epoch]

end

/-! ## Going on after a record -/

/-- The state a restore write's return leaves before the replay goes on (R116, R117). -/
theorem exec_restoreWriteResponse {s : State} {o : Outstanding} {rest : List Outstanding} {cursor : RollbackCursor}
    {replay : Replay} {h : RecordHeader} {position : Nat} (result : WriteResult)
    (outstanding : s.port.outstanding = o :: rest) (orphan : o.orphan = false) (owner : o.owner = .maint .restoreWrite)
    (write : o.request.kind = .write) (rollback : s.rollback = some cursor) (running : cursor.replay = some replay)
    (restoring : replay.progress = .restoring h position) :
    exec (.restoreWriteResponse result) s = .next (s.freeSlot.restored cursor replay h position result) := by
  have fits : responseFits o.request (WriteResult.response result) = true := by
    cases result
    · simp [WriteResult.response, responseFits, write]
    · rfl
  simp [exec, execRestoreWriteResponse, State.replaying, rollback, running, restoring,
    State.answersMaint_eq outstanding orphan owner fits]

/-- The replay goes on, or halts, from the state with the moved cursor (R109, R118). -/
theorem State.goOn_eq (s : State) (cursor : RollbackCursor) (replay : Replay) :
    s.goOn cursor replay =
      if replay.haltRequested && targetOffset s.log.marks cursor.target != some replay.position then
        (s.withRollback (some cursor)).haltReplay cursor replay
      else (s.withRollback (some cursor)).advanceReplay cursor replay := rfl

/-- A record lies before the position (R109): it is read (R110). -/
theorem State.advanceReplay_reads {s : State} {cursor : RollbackCursor} {replay : Replay} {span bound : Num}
    {last : Option Num}
    (found : compareMarks cursor.target replay.position replay.bound replay.lastApplied (marksFrom s.log.marks replay.span)
      = some { complete := false, span := span, bound := bound, last := last }) :
    s.advanceReplay cursor replay =
      s.readRecord cursor { replay with span := span, bound := bound, lastApplied := last } := by
  simp [State.advanceReplay, found]

/-- The target mark's offset is reached (R109): the completion step is made (R122). -/
theorem State.advanceReplay_completes {s : State} {cursor : RollbackCursor} {replay : Replay} {span bound : Num}
    {last : Option Num}
    (found : compareMarks cursor.target replay.position replay.bound replay.lastApplied (marksFrom s.log.marks replay.span)
      = some { complete := true, span := span, bound := bound, last := last }) :
    s.advanceReplay cursor replay =
      s.completeRollback cursor { replay with span := span, bound := bound, lastApplied := last } := by
  simp [State.advanceReplay, found]

/-- The record before the position is read (R110). -/
theorem State.readRecord_reads {s : State} {cursor : RollbackCursor} {replay : Replay} (record : replay.back ≠ 0) :
    s.readRecord cursor replay = { s with
      rollback := some { cursor with replay := some { replay with
        progress := .reading (recordBefore s.log.ringSize replay.position replay.back) (16 * replay.back) } }
      maintOffer := some
        { step := .recordRead
          request := readRequest (s.log.ringAddress (recordBefore s.log.ringSize replay.position replay.back))
            (16 * replay.back) } } := if_neg record

/-- A back length of 0 names no record, and the replay stops (R112; assumption 24). -/
theorem State.readRecord_stops {s : State} {cursor : RollbackCursor} {replay : Replay} (none : replay.back = 0) :
    s.readRecord cursor replay =
      s.recordBad cursor replay (recordBefore s.log.ringSize replay.position replay.back) .form := if_pos none

/-- The completion step at the target mark `m`, the stream having room for its header write (R122). -/
theorem State.completeRollback_eq {s : State} {cursor : RollbackCursor} {replay : Replay} {older newer : List Mark}
    {m : Mark} {nextSeq generation : Num} {items : List StreamItem} {entries : List Entry}
    (marks : s.log.marks = older ++ m :: newer) (here : m.epoch = cursor.target)
    (others : ∀ x ∈ newer, x.epoch ≠ cursor.target) (room : headerWrites items < 8) (seq : s.log.nextSeq = nextSeq)
    (count : s.log.generation = generation) (stream : s.stream = items) (window : s.window = entries) :
    s.completeRollback cursor replay =
      (let log := { s.log with
        marks := older ++ [{ m with firstSeq := nextSeq, duration := 0, recovered := false }], timer := stoppedTimer }
      { s with
        log := { log with generation := generation + 1 }
        rollback := some { cursor with replay := some { replay with progress := .completing, haltRequested := false } }
        stream := items ++ [{ body := .header .rollback (log.headerCopy (generation + 1)), issued := false }]
        window := entries.map fun e => if below cursor.target e.epoch then { e with epoch := cursor.target } else e
        capture := { s.capture with set := [] } }) := by
  subst seq count stream window
  rw [State.completeRollback, State.askHeader_room]
  · simp only [State.modLog, State.withLog, marks, completeMarks_eq older newer m _ _ here others]
    rfl
  · exact room

/-- Settles O55: the move over the record, the comparison and the walk signal come first; what the replay then does is read
off where the position stands, by the lemmas on the crossing and the completion step. -/
theorem restoreWriteMovesBack : Obligations.RestoreWriteMovesBack := by
  intro s o rest cursor replay h position result older newer span outstanding orphan owner write rollback running restoring
    marks here others untargeted moved onward compared before length next halted halts answer reads completes
  let posted : State := { s with
    port := { s.port with outstanding := rest }
    events := match result with
      | .okay => s.events
      | .error => s.events.post
        { kind := .restoreError, epoch := s.log.currentEpoch, address := some h.first, requester := some h.requester,
          detail := .number h.seq } }
  have before_eq : (posted.moveLog h position).withRollback (some onward) = before := by
    have model : (posted.modLog fun l =>
        { l with durableHead := position, writePos := position, lastLength := h.back }).compareLowSpace =
        { posted with log := compared.log, events := compared.events } := State.compareLowSpace_eq_with rfl rfl
    have statement : compared = { s with log := compared.log, events := compared.events } :=
      State.compareLowSpace_eq_with rfl rfl
    rw [State.moveLog, model]
    exact congrArg (fun c : State => { c with
      port := { s.port with outstanding := rest }, rollback := some onward
      capture := { s.capture with walkOwed := true } }) statement.symm
  have marks_eq : before.log.marks = older ++ span :: newer := (State.compareLowSpace_marks _).trans marks
  have answer_eq : answer = .next
      (if moved.haltRequested && targetOffset before.log.marks onward.target != some moved.position then
        before.haltReplay onward moved else before.advanceReplay onward moved) := by
    rw [← before_eq]
    simp only [answer]
    rw [exec_restoreWriteResponse result outstanding orphan owner write rollback running restoring,
      State.freeSlot_eq outstanding]
    cases result <;> rfl
  have size : before.log.ringSize = s.log.ringSize :=
    State.compareLowSpace_log_field LogController.ringSize _ fun _ _ => rfl
  have address (p : Nat) : before.log.ringAddress p = s.log.ringAddress p :=
    State.compareLowSpace_log_field (fun l => l.ringAddress p) _ fun _ _ => rfl
  have halts_iff : halts ↔
      (moved.haltRequested && targetOffset before.log.marks onward.target != some moved.position) = true := by
    simp [halts, moved, onward, marks_eq, marks, targetOffset]
  have from_span : marksFrom before.log.marks replay.span = span :: older.reverse := by
    rw [marks_eq]
    exact marksFrom_eq older newer span _ here fun x mem => others x (List.mem_append_right _ mem)
  have halted_eq (kind : EventKind) (address : Option Num) (detail : Detail) :
      (before.standHalted onward moved).post kind address none detail = halted kind address detail := by
    have epoch : (before.standHalted onward moved).log.currentEpoch = newestEpoch s.log.marks := by
      rw [LogController.currentEpoch_eq _ (by simp [State.standHalted, State.setEngine])]
      exact congrArg newestEpoch (State.compareLowSpace_marks _)
    rw [State.post, epoch]
    rfl
  have reads_eq (r : Replay) (at_ : r.position = position) (back : r.back = h.back) (record : h.back ≠ 0)
      (advances : before.advanceReplay onward moved = before.readRecord onward r) (goes : ¬halts) : reads r := by
    simp only [reads]
    rw [answer_eq, if_neg (mt halts_iff.2 goes), advances, State.readRecord_reads (by rwa [back]), at_, back, size, address]
    rfl
  have completes_eq (older' : List Mark) (target : Mark) (r : Replay) (newer' : List Mark)
      (list : s.log.marks = older' ++ target :: newer') (epoch : target.epoch = cursor.target)
      (others' : ∀ x ∈ newer', x.epoch ≠ cursor.target) 
      (advances : before.advanceReplay onward moved = before.completeRollback onward r) (goes : ¬halts) :
       completes older' target r := by
    intro room
    rw [answer_eq, if_neg (mt halts_iff.2 goes), advances]
    exact congrArg _ (State.completeRollback_eq ((State.compareLowSpace_marks _).trans list) epoch others' room
      (State.compareLowSpace_log_field LogController.nextSeq _ fun _ _ => rfl) (State.compareLowSpace_generation _)
      (State.compareLowSpace_stream _) (State.compareLowSpace_window _))
  have unmoved : ({ moved with span := span.epoch } : Replay) = moved := by rw [here]
  have short_of_span (short : position ≠ span.offset) :
      before.advanceReplay onward moved = before.readRecord onward moved := by
    have found := compareMarks_short (target := onward.target) (bound := moved.bound) (last := moved.lastApplied)
      (older := older.reverse) short
    exact (State.advanceReplay_reads (from_span ▸ found)).trans (congrArg (State.readRecord before onward) unmoved)
  refine ⟨fun halt => ?_, fun goes short record => ?_, fun goes short none => ?_, fun reached target => ?_,
    fun goes reached crosses further previous split => ⟨fun short record => ?_, fun reached' target => ?_⟩⟩
  · rw [answer_eq, if_pos (halts_iff.1 halt)]
    exact congrArg _ (halted_eq _ _ _)
  · exact reads_eq moved rfl rfl record (short_of_span short) goes
  · rw [answer_eq, if_neg (mt halts_iff.2 goes), short_of_span short, State.readRecord_stops none, State.recordBad, size,
      address]
    exact congrArg _ (halted_eq _ _ _)
  · have found := compareMarks_reached (bound := moved.bound) (last := moved.lastApplied) (older := older.reverse)
      reached target
    refine completes_eq older span moved newer marks target untargeted
      ((State.advanceReplay_completes (from_span ▸ found)).trans (congrArg _ unmoved)) ?_
    rintro ⟨_, elsewhere⟩
    refine elsewhere ?_
    rw [marks, find?_behind _ _ _ span (fun m mem => ?_) (by simp [target]), reached]
    · rfl
    · simpa [← target, here] using others m (List.mem_append_left _ mem)
  · refine reads_eq _ rfl rfl record (State.advanceReplay_reads ?_) goes
    rw [from_span, split, List.reverse_append]
    exact (compareMarks_cross reached crosses).trans (compareMarks_short short)
  · refine completes_eq further previous _ (span :: newer) (by rw [marks, split, List.append_assoc]; rfl) target ?_
      (State.advanceReplay_completes ?_) goes
    · exact List.forall_mem_cons.2 ⟨crosses, untargeted⟩
    · rw [from_span, split, List.reverse_append]
      exact (compareMarks_cross reached crosses).trans (compareMarks_reached reached' target)

end Sys2Proof.Machine
end

/-! # The walk over the waiting runs (O38, O51) -/

section
-- One proof after another: the threads of many at once outgrow the check's memory limit.
set_option Elab.async false
namespace Sys2Proof.Machine

/-! ## What every walk keeps -/

/-- What a walk does to the mark list: the oldest marks may go, never the last (R15); under WAIT none goes, nothing enters
the stream, and used space stays as it is. -/
def Releases (s t : State) : Prop :=
  (∃ more, t.log.marks = s.log.marks.drop more) ∧ (s.log.marks ≠ [] → t.log.marks ≠ []) ∧
    (s.log.tail = oldestOffset s.log.marks → t.log.tail = oldestOffset t.log.marks) ∧
    (s.log.policy.logFull = .wait → t.log.policy.logFull = .wait ∧ t.log.marks = s.log.marks ∧ t.stream = s.stream ∧
      t.log.generation = s.log.generation ∧ t.log.ringSize = s.log.ringSize ∧ t.log.usedSpace = s.log.usedSpace ∧
      (s.log.usedSpace + s.log.reserved + 16 ≤ s.log.ringSize → t.log.usedSpace + t.log.reserved + 16 ≤ t.log.ringSize))

/-- A change that touches neither the marks nor the stream, and reserves no more than there is space for. -/
theorem Releases.of_log {s t : State} (stream : t.stream = s.stream) (marks : t.log.marks = s.log.marks)
    (tail : t.log.tail = s.log.tail) (generation : t.log.generation = s.log.generation)
    (policy : t.log.policy = s.log.policy) (size : t.log.ringSize = s.log.ringSize)
    (used : t.log.usedSpace = s.log.usedSpace)
    (space : s.log.usedSpace + s.log.reserved + 16 ≤ s.log.ringSize →
      s.log.usedSpace + t.log.reserved + 16 ≤ s.log.ringSize) :
    Releases s t := by
  refine ⟨⟨0, marks⟩, fun some => ?_, fun oldest => ?_, fun wait => ⟨?_, marks, stream, generation, size, used, ?_⟩⟩
  · rwa [marks]
  · rw [tail, marks, oldest]
  · rw [policy, wait]
  · rwa [used, size]

theorem Releases.refl (s : State) : Releases s s := .of_log rfl rfl rfl rfl rfl rfl rfl id

theorem Releases.trans {s t u : State} (h : Releases s t) (k : Releases t u) : Releases s u := by
  obtain ⟨⟨m, dropped⟩, some, oldest, wait⟩ := h
  obtain ⟨⟨n, dropped'⟩, some', oldest', wait'⟩ := k
  refine ⟨⟨m + n, by rw [dropped', dropped, List.drop_drop]⟩, some' ∘ some, oldest' ∘ oldest, fun policy => ?_⟩
  obtain ⟨policy, marks, stream, generation, size, used, space⟩ := wait policy
  obtain ⟨policy', marks', stream', generation', size', used', space'⟩ := wait' policy
  exact ⟨policy', marks'.trans marks, stream'.trans stream, generation'.trans generation, size'.trans size,
    used'.trans used, space' ∘ space⟩

theorem State.recycleAllowed_iff (s : State) :
    s.recycleAllowed = true ↔ s.log.policy.logFull = .recycle ∧ s.log.engine = .armed ∧ 1 < s.log.marks.length ∧
      headerWrites s.stream < 8 := by
  simp only [State.recycleAllowed, Bool.and_eq_true, beq_iff_eq, decide_eq_true_eq, headerRoom_iff, and_assoc]

/-- What a RECYCLE release makes of the Log Controller (R15, R206). -/
theorem State.recycleRelease_log (s : State) :
    s.recycleRelease.log = { (s.dropMarks 1).compareLowSpace.log with generation := s.log.generation + 1 } := by
  simp only [State.recycleRelease, State.placeHeader, State.oweWalk_log, State.report_log, State.modLog_log,
    State.modStream_log, State.compareLowSpace_generation]
  rfl

theorem State.recycleRelease_marks (s : State) : s.recycleRelease.log.marks = s.log.marks.drop 1 := by
  rw [State.recycleRelease_log, State.compareLowSpace_log]
  rfl

theorem State.recycleRelease_tail (s : State) : s.recycleRelease.log.tail = oldestOffset (s.log.marks.drop 1) := by
  rw [State.recycleRelease_log, State.compareLowSpace_log]
  rfl

theorem Releases.recycle (s : State) (allowed : s.recycleAllowed = true) : Releases s s.recycleRelease := by
  obtain ⟨policy, _, two, _⟩ := s.recycleAllowed_iff.1 allowed
  refine ⟨⟨1, s.recycleRelease_marks⟩, fun _ none => ?_, fun _ => ?_, fun wait => ?_⟩
  · rw [s.recycleRelease_marks, List.drop_eq_nil_iff] at none
    omega
  · rw [s.recycleRelease_tail, s.recycleRelease_marks]
  · cases policy.symm.trans wait

theorem State.grantRun_log (s : State) (e : Entry) (run : Run) :
    (s.grantRun e run).log = { s.log with reserved := s.log.reserved + run.charge, logFull := false } := by
  simp [State.grantRun]

/-- A change of the reservation and of the log-full indication that keeps within the space. -/
theorem Releases.of_reservation {s t : State} {reserved : Nat} {full : Bool} (stream : t.stream = s.stream)
    (log : t.log = { s.log with reserved := reserved, logFull := full })
    (space : s.log.usedSpace + s.log.reserved + 16 ≤ s.log.ringSize →
      s.log.usedSpace + reserved + 16 ≤ s.log.ringSize) : Releases s t :=
  .of_log stream (congrArg (·.marks) log) (congrArg (·.tail) log) (congrArg (·.generation) log)
    (congrArg (·.policy) log) (congrArg (·.ringSize) log) (congrArg (·.usedSpace) log)
    (congrArg (·.reserved) log ▸ space)

/-- A grant reserves a charge that passed the space test (R10, R11). -/
theorem Releases.grant (s : State) (e : Entry) (run : Run) (space : s.log.hasSpace run.charge = true) :
    Releases s (s.grantRun e run) := by
  have fits : s.log.usedSpace + s.log.reserved + run.charge + 16 ≤ s.log.ringSize := of_decide_eq_true space
  exact .of_reservation (s.grantRun_stream e run) (s.grantRun_log e run) fun _ => by omega

/-- LOG_FULL is posted once: the indication is then set, and it was set if nothing was posted (R13). -/
theorem State.postLogFull_log (s : State) (e : Entry) (run : Run) :
    (s.postLogFull e run).log = { s.log with logFull := true } := by
  unfold State.postLogFull
  split
  · next full => rw [← full]
  · rfl

/-- A stall changes the Log Controller's log-full indication alone (R13). -/
theorem State.stallRun_log (s : State) (e : Entry) (run : Run) :
    (s.stallRun e run).log = { s.log with logFull := true } := by
  unfold State.stallRun
  split <;> simp [State.postLogFull_log]

theorem Releases.stall (s : State) (e : Entry) (run : Run) : Releases s (s.stallRun e run) :=
  .of_reservation (s.stallRun_stream e run) (s.stallRun_log e run) id

theorem State.walk_releases (s : State) : Releases s s.walk :=
  State.walk_induction .refl .trans (fun s => .of_log (t := s.modCapture _) rfl rfl rfl rfl rfl rfl rfl id)
    Releases.recycle (fun s e run space _ => .grant s e run space) Releases.stall s

/-! ## A walk made within another happening -/

theorem State.walk_of_owed (s : State) (owed : Bool) :
    State.walk { s with capture := { s.capture with walkOwed := owed } } = s.walk := rfl

theorem walks_iff (s t : State) : Walks s t ↔ t = s.walk := by
  have walked : exec .captureWalk { s with capture := { s.capture with walkOwed := true } } = .next s.walk := rfl
  rw [Walks, walked, Host.Outcome.next.injEq, eq_comm]

theorem walks_walk (s : State) : Walks s s.walk := (walks_iff s _).2 rfl

/-- A header write asked for while the stream has no room is left waiting (R16). -/
theorem State.askHeader_full (s : State) (purpose : HeaderPurpose) (full : 8 ≤ headerWrites s.stream) :
    s.askHeader purpose = { s with log := { s.log with waitingHeader := some purpose } } :=
  if_neg fun room => by rw [headerRoom_iff] at room; omega

/-- Asking for a header write changes the generation or the waiting header write of the Log Controller. -/
theorem State.askHeader_log (s : State) (purpose : HeaderPurpose) : ∃ generation waiting,
    (s.askHeader purpose).log = { s.log with generation := generation, waitingHeader := waiting } := by
  unfold State.askHeader
  split
  · exact ⟨_, _, rfl⟩
  · exact ⟨_, _, rfl⟩

/-- Dropping oldest marks leaves the newest, unless all go. -/
theorem newestEpoch_drop (marks : List Mark) (n : Nat) (some : marks.drop n ≠ []) :
    newestEpoch (marks.drop n) = newestEpoch marks := by
  rw [Ne, List.drop_eq_nil_iff] at some
  rw [newestEpoch, List.getLast?_drop, if_neg some]
  rfl

/-- Settles O38. The marks of `u` are what the walk leaves of those that remained (`walk_releases`); everything else the
statement names is outside the walk's frame. -/
theorem releaseDropsTheOldestMarks : Obligations.ReleaseDropsTheOldestMarks := by
  intro s n running armed least most remaining dropped
  obtain ⟨⟨more, left⟩, some, oldest, wait⟩ := dropped.walk_releases
  have frame := dropped.walk_walkFrame
  generalize u_eq : dropped.walk = u at *
  have dropped_log : dropped.log = { s.log with
    marks := remaining, tail := oldestOffset remaining, lowSpace := dropped.log.lowSpace } := State.compareLowSpace_log _
  have u_log := congrArg State.log frame
  obtain ⟨generation, waiting, t_log⟩ := u.askHeader_log .release
  have answer : exec (.release n) s = .next ((u.askHeader .release).setEngine .updating) := by
    rw [← u_eq]
    simp only [exec, execRelease, State.onFrame, running, armed, least, most, and_self, if_true, Bool.false_eq_true, if_false]
    rfl
  refine ⟨u, _, more, (walks_iff _ _).2 u_eq.symm, answer, fun room => ?_, fun full => ?_, ?_⟩
  · rw [State.askHeader_room u _ room]; rfl
  · rw [State.askHeader_full u _ full]; rfl
  have log : ((u.askHeader .release).setEngine .updating).log = { s.log with
    engine := .updating, marks := u.log.marks, tail := u.log.tail, generation := generation, reserved := u.log.reserved
    lowSpace := u.log.lowSpace, logFull := u.log.logFull, waitingHeader := waiting } := by
    change { (u.askHeader .release).log with engine := .updating } = _
    rw [t_log, u_log, dropped_log]
  have remain : dropped.log.marks = remaining := State.compareLowSpace_marks _
  have some_remain : remaining ≠ [] := by simp only [remaining, Ne, List.drop_eq_nil_iff]; omega
  have some_left : u.log.marks ≠ [] := some (by rwa [remain])
  have tail : dropped.log.tail = oldestOffset dropped.log.marks := by rw [dropped_log]
  have policy : dropped.log.policy = s.log.policy := by rw [dropped_log]
  have marks : u.log.marks = s.log.marks.drop (n.toNat + more) := by rw [left, remain, List.drop_drop]
  have whole : u = { s with
      link := answered .started [], window := u.window, stream := u.stream, log := u.log, events := u.events
      capture := { s.capture with walkOwed := u.capture.walkOwed }
      staging := { s.staging with runSlots := u.staging.runSlots } } := by
    have compared : dropped = { s with
        link := answered .started [], log := dropped.log, events := dropped.events } :=
      State.compareLowSpace_eq_with rfl rfl
    have walked : u = { dropped with
        window := u.window, stream := u.stream, log := u.log, events := u.events
        capture := { dropped.capture with walkOwed := u.capture.walkOwed }
        staging := { dropped.staging with runSlots := u.staging.runSlots } } := by
      rw [u_log]
      exact frame
    exact walked.trans (congrArg (fun d : State => { d with
      window := u.window, stream := u.stream, log := u.log, events := u.events
      capture := { d.capture with walkOwed := u.capture.walkOwed }
      staging := { d.staging with runSlots := u.staging.runSlots } }) compared)
  have kept : dropped.stream = s.stream ∧ dropped.log.generation = s.log.generation :=
    ⟨State.compareLowSpace_stream _, State.compareLowSpace_generation _⟩
  rw [log]
  refine ⟨marks, some_left, fun waits => ?_, oldest tail, rfl, ?_, ?_, rfl, rfl, ?_, ?_, ?_, ?_, fun waits => ?_⟩
  · obtain ⟨_, same, _⟩ := wait (policy ▸ waits)
    have := congrArg List.length (left.symm.trans same)
    rw [remain, List.length_drop] at this
    have := List.length_pos_of_ne_nil some_remain
    omega
  · exact (State.askHeader_link _ _).trans (congrArg State.link whole)
  · rw [LogController.currentEpoch_eq _ (by simp), LogController.currentEpoch_eq _ (by simp [armed])]
    simp only [marks]
    exact newestEpoch_drop _ _ (marks ▸ some_left)
  · rw [State.setEngine_capture, State.askHeader_capture]
    exact congrArg (fun v => v.capture.set) whole
  · exact (State.askHeader_regions _ _).trans (by rw [whole])
  · exact (State.askHeader_port _ _).trans (by rw [whole])
  · exact (State.askHeader_host _ _).trans (by rw [whole])
  · obtain ⟨_, _, stream, generation, _⟩ := wait (policy ▸ waits)
    exact ⟨stream.trans kept.1, generation.trans kept.2⟩

end Sys2Proof.Machine
end

/-! # Space requests of one waiting run (O51) -/

section
-- One proof after another: the threads of many at once outgrow the check's memory limit.
set_option Elab.async false
namespace Sys2Proof.Machine

/-! ## The window entry of a key (R76) -/

section
variable {s : State} {before after : List Entry} {e : Entry}

/-- A map that changes no element of a list leaves the list. -/
theorem map_unchanged {α : Type} {f : α → α} {l : List α} (same : ∀ x ∈ l, f x = x) : l.map f = l :=
  (List.map_congr_left same).trans (List.map_id l)

theorem WindowLaw.other_key (law : WindowLaw s) (window : s.window = before ++ e :: after) :
    ∀ x ∈ before ++ after, ¬(x.requester = e.requester ∧ x.tag = e.tag) := by
  rintro x mem ⟨requester, tag⟩
  have nodup := law.2
  rw [window, List.map_append, List.map_cons, List.nodup_middle] at nodup
  refine (List.nodup_cons.1 nodup).1 ?_
  rw [← List.map_append, ← requester, ← tag]
  exact List.mem_map_of_mem mem

theorem WindowLaw.updateEntry (law : WindowLaw s) (window : s.window = before ++ e :: after) (f : Entry → Entry) :
    (s.updateEntry e.requester e.tag f).window = before ++ f e :: after := by
  have other := law.other_key window
  rw [State.updateEntry_window, window, List.map_append, List.map_cons, if_pos ⟨rfl, rfl⟩,
    map_unchanged fun x mem => if_neg (other x (List.mem_append_left _ mem)),
    map_unchanged fun x mem => if_neg (other x (List.mem_append_right _ mem))]

/-- The entry is found by its key, whatever it has become. -/
theorem WindowLaw.findEntry {t : State} {e' : Entry} (law : WindowLaw s) (window : s.window = before ++ e :: after)
    (window' : t.window = before ++ e' :: after) (key : e'.requester = e.requester ∧ e'.tag = e.tag) :
    t.findEntry e.requester e.tag = some e' := by
  rw [State.findEntry, window']
  refine find?_behind _ _ _ _ (fun x mem => ?_) (by simp [Entry.hasKey, key])
  simpa [Entry.hasKey] using law.other_key window x (List.mem_append_left _ mem)

end

/-! ## A walk with one run waiting -/

/-- The entry of a key has no waiting run. -/
def State.Quiet (s : State) (requester : Requester) (tag : Tag) : Prop :=
  ∀ e, s.findEntry requester tag = some e → ∀ r ∈ e.runs, r.waiting = false

theorem State.Quiet.walkRuns {s : State} {requester : Requester} {tag : Tag} (quiet : s.Quiet requester tag) (n : Nat) :
    s.walkRuns requester tag n = s := by
  cases n with
  | zero => rfl
  | succ n =>
    unfold State.walkRuns
    split
    · rfl
    · split
      · rfl
      · next e found =>
        rw [List.find?_eq_none.2 fun r mem => by simp [quiet e found r mem]]

theorem State.foldl_walkRuns_quiet {s : State} {entries : List Entry}
    (quiet : ∀ x ∈ entries, s.Quiet x.requester x.tag) :
    (entries.map fun e => (e.requester, e.tag, e.runs.length)).foldl (fun s k => s.walkRuns k.1 k.2.1 k.2.2) s = s := by
  induction entries with
  | nil => rfl
  | cons x rest ih =>
    rw [List.map_cons, List.foldl_cons, (quiet x List.mem_cons_self).walkRuns]
    exact ih fun y mem => quiet y (List.mem_cons_of_mem _ mem)

/-- A space request ends in a grant or a stall of the run, the window as it was before. -/
theorem State.requestSpace_cases (s : State) (e : Entry) (run : Run) (releases : Nat) :
    ∃ v : State, v.window = s.window ∧
      (s.requestSpace e run releases = (v.grantRun e run, true) ∨
        s.requestSpace e run releases = (v.stallRun e run, false)) := by
  induction releases generalizing s with
  | zero =>
    unfold State.requestSpace
    split
    · exact ⟨s, rfl, .inl rfl⟩
    · exact ⟨s, rfl, .inr rfl⟩
  | succ n ih =>
    unfold State.requestSpace
    split
    · exact ⟨s, rfl, .inl rfl⟩
    · dsimp only
      split
      · obtain ⟨v, window, asked⟩ := ih s.recycleRelease
        exact ⟨v, window.trans s.recycleRelease_window, asked⟩
      · exact ⟨s, rfl, .inr rfl⟩

theorem State.requestSpace_granted {s : State} {run : Run} (e : Entry) (releases : Nat)
    (space : s.log.hasSpace run.charge = true) : s.requestSpace e run releases = (s.grantRun e run, true) := by
  unfold State.requestSpace
  rw [if_pos space]

theorem State.requestSpace_stalled {s : State} {run : Run} (e : Entry) (releases : Nat)
    (space : s.log.hasSpace run.charge = false) (kept : releases = 0 ∨ s.recycleAllowed = false) :
    s.requestSpace e run releases = (s.stallRun e run, false) := by
  unfold State.requestSpace
  rw [if_neg (by simp [space])]
  cases releases with
  | zero => rfl
  | succ n => exact if_neg (by simpa using kept)

theorem State.requestSpace_released {s : State} {run : Run} (e : Entry) (releases : Nat)
    (space : s.log.hasSpace run.charge = false) (allowed : s.recycleAllowed = true) :
    s.requestSpace e run (releases + 1) = s.recycleRelease.requestSpace e run releases := by
  rw [State.requestSpace, if_neg (by simp [space])]
  exact if_pos allowed

section
variable {s : State} {before after : List Entry} {e : Entry} {earlier later : List Run} {run : Run}

/-- The runs of the entry once the one waiting run of it has another condition. -/
theorem Entry.setRun_split (runs : e.runs = earlier ++ run :: later)
    (others : ∀ r ∈ earlier ++ later, r.waiting = false ∧ r.id ≠ run.id) (condition : RunCondition) :
    e.setRun run.id condition = { e with runs := earlier ++ { run with condition := condition } :: later } := by
  have same (part : List Run) (sub : part ⊆ earlier ++ later) :
      part.map (fun r => if r.id = run.id then { r with condition := condition } else r) = part :=
    map_unchanged fun r mem => if_neg (others r (sub mem)).2
  rw [Entry.setRun, runs, List.map_append, List.map_cons, if_pos rfl, same _ (List.subset_append_left _ _),
    same _ (List.subset_append_right _ _)]

/-- The entry once its one waiting run is granted (R63). -/
theorem Entry.grant_eq (runs : e.runs = earlier ++ run :: later)
    (others : ∀ r ∈ earlier ++ later, r.waiting = false ∧ r.id ≠ run.id) :
    e.grant run.id = { e with
      runs := earlier ++ { run with condition := .reading false } :: later
      phase := if e.heldFor .space then .capturing else e.phase } := by
  have unstalled : (earlier ++ { run with condition := .reading false } :: later).any Run.isStalled = false := by
    have quiet (r : Run) (waits : r.waiting = false) : r.isStalled = false := by
      cases stalled : r.isStalled
      · rfl
      · simp only [Run.isStalled, beq_iff_eq] at stalled
        simp [Run.waiting, stalled] at waits
    rw [List.any_eq_false]
    intro r mem
    simp only [List.mem_append, List.mem_cons] at mem
    rcases mem with here | rfl | here
    · simp [quiet r (others r (List.mem_append_left _ here)).1]
    · simp [Run.isStalled]
    · simp [quiet r (others r (List.mem_append_right _ here)).1]
  rw [Entry.grant, Entry.setRun_split runs others]
  simp only [unstalled, Bool.not_false, Bool.and_true]
  split <;> rfl

/-- The window once the one waiting run is granted. -/
theorem State.grantRun_window (law : WindowLaw s) (window : s.window = before ++ e :: after)
    (runs : e.runs = earlier ++ run :: later) (others : ∀ r ∈ earlier ++ later, r.waiting = false ∧ r.id ≠ run.id) :
    (s.grantRun e run).window = before ++
      { e with
        runs := earlier ++ { run with condition := .reading false } :: later
        phase := if e.heldFor .space then .capturing else e.phase } :: after := by
  rw [← Entry.grant_eq runs others]
  exact law.updateEntry window _

/-- The window once the one waiting run is refused (R14, R63). -/
theorem State.stallRun_window (law : WindowLaw s) (window : s.window = before ++ e :: after)
    (runs : e.runs = earlier ++ run :: later) (others : ∀ r ∈ earlier ++ later, r.waiting = false ∧ r.id ≠ run.id) :
    (s.stallRun e run).window = before ++
      (if run.condition = .stalled then e
        else { e with
          runs := earlier ++ { run with condition := .stalled } :: later
          phase := .held .space s.newTimer }) :: after := by
  have kept : (s.postLogFull e run).window = before ++ e :: after := (s.postLogFull_window e run).trans window
  have law' : WindowLaw (s.postLogFull e run) := by rw [WindowLaw, s.postLogFull_window e run]; exact law
  unfold State.stallRun
  by_cases stalled : run.condition = .stalled
  · rw [if_pos (by simp [Run.isStalled, stalled]), if_pos stalled, kept]
  · rw [if_neg (by simp [Run.isStalled, stalled]), if_neg stalled, law'.updateEntry kept, Entry.setRun_split runs others]
    rfl

/-- Every other entry is quiet, whatever the one entry has become. -/
theorem WindowLaw.quiet_others {t : State} {e' : Entry} (law : WindowLaw s) (window : s.window = before ++ e :: after)
    (window' : t.window = before ++ e' :: after) (key : e'.requester = e.requester ∧ e'.tag = e.tag)
    (quiet : ∀ x ∈ before ++ after, ∀ r ∈ x.runs, r.waiting = false) :
    ∀ x ∈ before ++ after, t.Quiet x.requester x.tag := by
  intro x mem y found
  have mem_y := List.mem_of_find?_eq_some found
  have key_y := List.find?_some found
  simp only [Entry.hasKey, Bool.and_eq_true, beq_iff_eq] at key_y
  rw [window'] at mem_y
  rcases List.mem_append.1 mem_y with here | here
  · exact quiet y (List.mem_append_left _ here)
  · rcases List.mem_cons.1 here with rfl | here
    · exact absurd ⟨key_y.1 ▸ key.1, key_y.2 ▸ key.2⟩ (law.other_key window x mem)
    · exact quiet y (List.mem_append_right _ here)

/-- A walk over a window with one waiting run is the space request of that run. -/
theorem State.walk_single (law : WindowLaw s) (window : s.window = before ++ e :: after)
    (runs : e.runs = earlier ++ run :: later) (quiet : ∀ x ∈ before ++ after, ∀ r ∈ x.runs, r.waiting = false)
    (others : ∀ r ∈ earlier ++ later, r.waiting = false ∧ r.id ≠ run.id) (waits : run.waiting = true)
    (logs : s.log.engine.logs = true) (free : s.staging.runSlots.length < 7) :
    s.walk = ((s.modCapture fun c => { c with walkOwed := false }).requestSpace e run s.log.marks.length).1 := by
  have law' : WindowLaw (s.modCapture fun c => { c with walkOwed := false }) := law
  rw [State.walk, if_pos logs, window, List.map_append, List.map_cons, List.foldl_append, List.foldl_cons]
  generalize u_eq : (s.modCapture fun c => { c with walkOwed := false }) = u at law' ⊢
  have window' : u.window = before ++ e :: after := by rw [← u_eq]; exact window
  have marks : u.log.marks = s.log.marks := by rw [← u_eq]; rfl
  have free' : ¬Config.runSlotCount ≤ u.staging.runSlots.length := by rw [← u_eq]; exact Nat.not_le.2 free
  have first : e.runs.find? Run.waiting = some run := by
    rw [runs]
    exact find?_behind _ _ _ _ (fun r mem => (others r (List.mem_append_left _ mem)).1) waits
  have after_grant {t : State} (n : Nat) (granted : u.requestSpace e run s.log.marks.length = (t, true)) :
      u.walkRuns e.requester e.tag (n + 1) = t.walkRuns e.requester e.tag n := by
    rw [State.walkRuns, if_neg free', law.findEntry window window' ⟨rfl, rfl⟩]
    simp only [first, marks, granted]
  have after_stall {t : State} (n : Nat) (stalled : u.requestSpace e run s.log.marks.length = (t, false)) :
      u.walkRuns e.requester e.tag (n + 1) = t := by
    rw [State.walkRuns, if_neg free', law.findEntry window window' ⟨rfl, rfl⟩]
    simp only [first, marks, stalled]
  rw [State.foldl_walkRuns_quiet fun x mem => law.quiet_others window window' ⟨rfl, rfl⟩ quiet x (List.mem_append_left _ mem)]
  have count : e.runs.length = earlier.length + later.length + 1 := by rw [runs]; simp; omega
  obtain ⟨v, v_window, granted | stalled⟩ := u.requestSpace_cases e run s.log.marks.length
  · have law_v : WindowLaw v := by rw [WindowLaw, v_window]; exact law'
    have window_t := v.grantRun_window law_v (v_window.trans window') runs others
    have quiet_t : (v.grantRun e run).Quiet e.requester e.tag := by
      intro y found r mem
      rw [law.findEntry window window_t ⟨rfl, rfl⟩] at found
      cases found
      rcases List.mem_append.1 mem with here | here
      · exact (others r (List.mem_append_left _ here)).1
      · rcases List.mem_cons.1 here with rfl | here
        · rfl
        · exact (others r (List.mem_append_right _ here)).1
    rw [count, after_grant _ granted, quiet_t.walkRuns, granted]
    exact State.foldl_walkRuns_quiet fun x mem =>
      law.quiet_others window window_t ⟨rfl, rfl⟩ quiet x (List.mem_append_right _ mem)
  · have law_v : WindowLaw v := by rw [WindowLaw, v_window]; exact law'
    have window_t := v.stallRun_window law_v (v_window.trans window') runs others
    rw [count, after_stall _ stalled, stalled]
    exact State.foldl_walkRuns_quiet fun x mem =>
      law.quiet_others window window_t (by split <;> exact ⟨rfl, rfl⟩) quiet x (List.mem_append_right _ mem)

end

/-! ## A walk signal does not change what a request gets -/

theorem State.grantRun_oweWalk (s : State) (e : Entry) (run : Run) : s.oweWalk.grantRun e run = (s.grantRun e run).oweWalk :=
  rfl

theorem State.postLogFull_oweWalk (s : State) (e : Entry) (run : Run) :
    s.oweWalk.postLogFull e run = (s.postLogFull e run).oweWalk := by
  unfold State.postLogFull
  rw [apply_ite State.oweWalk]
  rfl

theorem State.stallRun_oweWalk (s : State) (e : Entry) (run : Run) :
    s.oweWalk.stallRun e run = (s.stallRun e run).oweWalk := by
  unfold State.stallRun
  rw [State.postLogFull_oweWalk, apply_ite State.oweWalk]
  rfl

theorem State.compareLowSpace_oweWalk (s : State) : s.oweWalk.compareLowSpace = s.compareLowSpace.oweWalk := by
  obtain ⟨log, events⟩ := State.compareLowSpace_congr (s := s.oweWalk) (t := s) rfl rfl
  exact State.eq_of_blocks (capture := by simp [State.oweWalk]) (log := log) (events := events)

theorem State.recycleRelease_oweWalk (s : State) : s.oweWalk.recycleRelease = s.recycleRelease.oweWalk := by
  have dropped : s.oweWalk.dropMarks 1 = (s.dropMarks 1).oweWalk := rfl
  rw [State.recycleRelease, dropped, State.compareLowSpace_oweWalk]
  rfl

/-- A RECYCLE release drops the oldest mark, places a header write, posts EPOCH_DROPPED and makes a walk due (R15, R206). -/
theorem State.recycleRelease_eq {s dropped : State} {oldest next : Mark} {more : List Mark}
    (marks : s.log.marks = oldest :: next :: more) (armed : s.log.engine = .armed)
    (log : dropped.log = (s.dropMarks 1).compareLowSpace.log)
    (events : dropped.events = (s.dropMarks 1).compareLowSpace.events) :
    s.recycleRelease =
      { s with
        log := { dropped.log with generation := s.log.generation + 1 }
        stream := s.stream ++
          [{ body := .header .recycle (dropped.log.headerCopy (s.log.generation + 1)), issued := false }]
        events := dropped.events.post
          { kind := .epochDropped, epoch := s.log.currentEpoch, address := none, requester := none,
            detail := .number oldest.epoch }
        capture := { s.capture with walkOwed := true } } := by
  have epoch : (s.dropMarks 1).log.currentEpoch = s.log.currentEpoch := by
    have attached : s.log.engine ≠ .scanning := by simp [armed]
    rw [LogController.currentEpoch_eq (l := s.log) attached, LogController.currentEpoch_eq (l := (s.dropMarks 1).log) attached]
    simp [State.dropMarks, newestEpoch, marks]
  have generation : (s.dropMarks 1).compareLowSpace.log.generation = s.log.generation := State.compareLowSpace_generation _
  rw [log, events]
  have placed_events : ((s.dropMarks 1).compareLowSpace.placeHeader .recycle).events =
      (s.dropMarks 1).compareLowSpace.events := by
    simp [State.placeHeader]
  have placed_epoch : ((s.dropMarks 1).compareLowSpace.placeHeader .recycle).log.currentEpoch = s.log.currentEpoch :=
    (State.compareLowSpace_currentEpoch _).trans epoch
  refine State.eq_of_blocks (log := s.recycleRelease_log) (capture := ?_) (stream := ?_) (events := ?_)
  · simp [State.recycleRelease, State.placeHeader, State.oweWalk]
  · rw [← generation]
    simp [State.recycleRelease, State.placeHeader, LogController.headerItem]
  · rw [← placed_events, ← placed_epoch]
    simp only [State.recycleRelease, State.oweWalk_events, State.report, State.post, oldestEpoch, marks]
    rfl

/-- A request gets the same whether or not a walk is owed. -/
theorem State.requestSpace_oweWalk (s : State) (e : Entry) (run : Run) (releases : Nat) :
    s.oweWalk.requestSpace e run releases =
      ((s.requestSpace e run releases).1.oweWalk, (s.requestSpace e run releases).2) := by
  induction releases generalizing s with
  | zero =>
    cases space : s.log.hasSpace run.charge
    · rw [State.requestSpace_stalled e 0 space (.inl rfl), ← State.stallRun_oweWalk]
      exact State.requestSpace_stalled e 0 space (.inl rfl)
    · rw [State.requestSpace_granted e 0 space]
      exact State.requestSpace_granted e 0 space
  | succ n ih =>
    cases space : s.log.hasSpace run.charge
    · cases allowed : s.recycleAllowed
      · rw [State.requestSpace_stalled e _ space (.inr allowed), ← State.stallRun_oweWalk]
        exact State.requestSpace_stalled e _ space (.inr allowed)
      · rw [State.requestSpace_released e n space allowed, ← ih, ← State.recycleRelease_oweWalk]
        exact State.requestSpace_released e n space allowed
    · rw [State.requestSpace_granted e _ space]
      exact State.requestSpace_granted e _ space

/-- What a walk does to the run slots and the reservation (R10, R67). -/
theorem State.walk_runSlots (s : State) (few : s.staging.runSlots.length ≤ 7) : s.walk.staging.runSlots.length ≤ 7 :=
  State.walk_induction (R := fun s t => s.staging.runSlots.length ≤ 7 → t.staging.runSlots.length ≤ 7)
    (fun _ => id) (fun h k => k ∘ h) (fun _ => id) (fun s _ few => by simpa using few)
    (fun s e run _ free _ => by simpa [State.grantRun] using free) (fun s e run few => by simpa using few) s few

theorem State.walk_full (s : State) (full : 7 ≤ s.staging.runSlots.length) :
    s.walk = s.modCapture fun c => { c with walkOwed := false } := by
  unfold State.walk
  split
  · generalize s.window.map (fun e => (e.requester, e.tag, e.runs.length)) = keys
    induction keys with
    | nil => rfl
    | cons k rest ih =>
      have ends : (s.modCapture fun c => { c with walkOwed := false }).walkRuns k.1 k.2.1 k.2.2 =
          s.modCapture fun c => { c with walkOwed := false } := by
        cases k.2.2 with
        | zero => rfl
        | succ n => exact if_pos full
      rw [List.foldl_cons, ends]
      exact ih
  · rfl

theorem EngineState.logs_iff (x : EngineState) : x.logs = true ↔ x ∈ [EngineState.armed, .checkpointing, .updating] := by
  cases x <;> simp [EngineState.logs]

theorem exec_captureWalk {s : State} (owed : s.capture.walkOwed = true) : exec .captureWalk s = .next s.walk := by
  simp [exec, execCaptureWalk, owed]

theorem LogController.hasSpace_iff (l : LogController) (charge : Nat) :
    l.hasSpace charge = true ↔ l.usedSpace + l.reserved + charge + 16 ≤ l.ringSize := decide_eq_true_iff

theorem Run.charge_eq (run : Run) : run.charge = 16 + 32 * run.count + 32 * run.count := by
  simp only [Run.charge, Run.length, recordLength]
  omega

theorem State.stallRun_events (s : State) (e : Entry) (run : Run) :
    (s.stallRun e run).events =
      if s.log.logFull then s.events else s.events.post
        { kind := .logFull, epoch := s.log.currentEpoch, address := some run.first, requester := some e.requester,
          detail := .number (num run.charge) } := by
  have posted : (s.stallRun e run).events = (s.postLogFull e run).events := by
    unfold State.stallRun
    split <;> simp
  rw [posted, State.postLogFull, apply_ite State.events]
  rfl

/-- The state whose walk signal is taken. -/
@[reducible] def State.signalTaken (s : State) : State := { s with capture := { s.capture with walkOwed := false } }

/-- CAPTURE_WALK with one run waiting is the space request of that run, the signal answered (R63). -/
theorem exec_captureWalk_single {s : State} {before after : List Entry} {e : Entry} {earlier later : List Run} {run : Run}
    (law : WindowLaw s) (window : s.window = before ++ e :: after) (runs : e.runs = earlier ++ run :: later)
    (quiet : ∀ x ∈ before ++ after, ∀ r ∈ x.runs, r.waiting = false)
    (others : ∀ r ∈ earlier ++ later, r.waiting = false ∧ r.id ≠ run.id) (waits : run.waiting = true)
    (owed : s.capture.walkOwed = true) (logs : s.log.engine ∈ [EngineState.armed, .checkpointing, .updating])
    (free : s.staging.runSlots.length < 7) :
    exec .captureWalk s = .next (s.signalTaken.requestSpace e run s.log.marks.length).1 := by
  rw [exec_captureWalk owed, State.walk_single law window runs quiet others waits (s.log.engine.logs_iff.2 logs) free]
  rfl

/-- A space request that makes a RECYCLE release asks again of the released state, and a walk is then due (R15). -/
theorem State.requestSpace_recycles {s dropped released : State} {oldest next : Mark} {more : List Mark} (e : Entry)
    {run : Run} (full : s.log.hasSpace run.charge = false) (allowed : s.recycleAllowed = true)
    (marks : s.log.marks = oldest :: next :: more)
    (drop : dropped = State.compareLowSpace { s with log := { s.log with marks := next :: more, tail := next.offset } })
    (release : released = { dropped with
      log := { dropped.log with generation := s.log.generation + 1 }
      stream := s.stream ++
        [{ body := .header .recycle (dropped.log.headerCopy (s.log.generation + 1)), issued := false }]
      events := dropped.events.post
        { kind := .epochDropped, epoch := s.log.currentEpoch, address := none, requester := none,
          detail := .number oldest.epoch } }) :
    (s.signalTaken.requestSpace e run s.log.marks.length).1 =
      (released.signalTaken.requestSpace e run (more.length + 1)).1.oweWalk := by
  obtain ⟨_, armed, _, _⟩ := s.recycleAllowed_iff.1 allowed
  have drop_log : (s.signalTaken.dropMarks 1).log = { s.log with marks := next :: more, tail := next.offset } := by
    simp only [State.dropMarks, State.modLog, State.withLog, marks]
    rfl
  obtain ⟨dropped_log, dropped_events⟩ := State.compareLowSpace_congr (s := s.signalTaken.dropMarks 1)
    (t := { s with log := { s.log with marks := next :: more, tail := next.offset } }) drop_log rfl
  rw [← drop] at dropped_log dropped_events
  have frame : dropped = { s with log := dropped.log, events := dropped.events } := by
    rw [drop]
    exact State.compareLowSpace_eq_with rfl rfl
  have owed : s.signalTaken.recycleRelease = released.signalTaken.oweWalk := by
    rw [State.recycleRelease_eq (s := s.signalTaken) (dropped := dropped) marks armed dropped_log.symm
      dropped_events.symm, release, frame]
    rfl
  have count : s.log.marks.length = more.length + 1 + 1 := by rw [marks]; rfl
  rw [count, State.requestSpace_released (s := s.signalTaken) e _ full allowed, owed, State.requestSpace_oweWalk]

/-- Settles O51: a walk over one waiting run is one space request, decided by the space test; a RECYCLE release leaves the
same request to be asked of the released state, with a walk due. The bounds hold of every walk by induction over what a walk
is made of. -/
theorem walkGrantsByTheSpaceTest : Obligations.WalkGrantsByTheSpaceTest := by
  refine ⟨fun s idle => ?_, fun s owed stopped => ?_, fun s few => ?_, fun s wait space => ?_, ?_⟩
  · simp [exec, execCaptureWalk, idle]
  · rw [exec_captureWalk owed]
    rcases stopped with idle | full
    · rw [State.walk, if_neg (by rwa [EngineState.logs_iff])]; rfl
    · rw [s.walk_full full]; rfl
  · refine ⟨_, rfl, ?_⟩
    split
    · exact ⟨s.walk_runSlots few, by rw [s.walk_walkFrame]⟩
    · exact ⟨few, rfl⟩
  · refine ⟨_, rfl, ?_⟩
    split
    · obtain ⟨_, _, _, kept⟩ := s.walk_releases
      obtain ⟨_, marks, stream, _, size, _, bound⟩ := kept wait
      exact ⟨bound space, marks, stream, by rw [s.walk_walkFrame], by rw [s.walk_walkFrame]⟩
    · exact ⟨space, rfl, rfl, rfl, rfl⟩
  · intro s before after e earlier later run law window runs quiet others waits owed logs free charge fits granted
    have charge_eq : run.charge = charge := run.charge_eq
    have space_iff (l : LogController) : l.hasSpace run.charge = true ↔ fits l := by
      rw [LogController.hasSpace_iff, charge_eq]
    have answer := exec_captureWalk_single law window runs quiet others waits owed logs free
    have law' : WindowLaw s.signalTaken := law
    refine ⟨fun fit => ?_, fun full why => ?_, fun full recycle armed room oldest next more marks => ?_⟩
    · rw [answer, State.requestSpace_granted (s := s.signalTaken) e _ ((space_iff s.log).2 fit)]
      exact congrArg _ (State.eq_of_blocks (window := State.grantRun_window law' window runs others)
        (staging := rfl) (log := charge_eq ▸ State.grantRun_log _ e run))
    · have space : s.log.hasSpace run.charge = false := by
        rw [← Bool.not_eq_true, space_iff]; exact full
      have kept : s.recycleAllowed = false := by
        rw [← Bool.not_eq_true, State.recycleAllowed_iff]
        rintro ⟨recycle, armed, two, room⟩
        rcases why with wait | other | few | full
        · cases recycle.symm.trans wait
        · exact other armed
        · exact absurd two (Nat.not_lt.2 few)
        · exact absurd room (Nat.not_lt.2 full)
      rw [answer, State.requestSpace_stalled (s := s.signalTaken) e _ space (.inr kept)]
      exact congrArg _ (State.eq_of_blocks (window := State.stallRun_window law' window runs others)
        (log := State.stallRun_log _ e run) (events := charge_eq ▸ State.stallRun_events _ e run))
    · intro dropped released
      have space : s.log.hasSpace run.charge = false := by
        rw [← Bool.not_eq_true, space_iff]; exact full
      have allowed : s.recycleAllowed = true := s.recycleAllowed_iff.2 ⟨recycle, armed, by simp [marks], room⟩
      have again := answer.trans (congrArg Host.Outcome.next
        (State.requestSpace_recycles (dropped := dropped) (released := released) e space allowed marks rfl rfl))
      have window_d : released.window = before ++ e :: after := by
        rw [← window]; exact State.compareLowSpace_window _
      have law_d : WindowLaw released := by
        rw [WindowLaw, window_d, ← window]; exact law
      have capture_d : released.capture = s.capture := State.compareLowSpace_capture _
      have staging_d : released.staging = s.staging := State.compareLowSpace_staging _
      have engine_d : released.log.engine = s.log.engine := 
        State.compareLowSpace_log_field LogController.engine _ fun _ _ => rfl
      have reserved_d : released.log.reserved = s.log.reserved :=
        State.compareLowSpace_log_field LogController.reserved _ fun _ _ => rfl
      constructor
      · have count : released.log.marks.length = more.length + 1 := congrArg List.length (State.compareLowSpace_marks _)
        have owed_d : released.capture.walkOwed = true := by rw [capture_d, owed]
        have logs_d : released.log.engine ∈ [EngineState.armed, .checkpointing, .updating] := by
          rw [engine_d, armed]; exact List.mem_cons_self
        have free_d : released.staging.runSlots.length < 7 := by rw [staging_d]; exact free
        have asked := exec_captureWalk_single law_d window_d runs quiet others waits owed_d logs_d free_d
        rw [count] at asked
        exact ⟨_, asked, again⟩
      · intro fit
        rw [again, State.requestSpace_granted (s := released.signalTaken) e _ ((space_iff dropped.log).2 fit)]
        refine congrArg _ (State.eq_of_blocks (window := State.grantRun_window law_d window_d runs others)
          (capture := ?_) (staging := ?_) (log := ?_))
        · rw [← capture_d]; rfl
        · rw [← staging_d]; rfl
        · rw [← reserved_d, ← charge_eq]; rfl

end Sys2Proof.Machine
end

/-! # The grant of the Memory Port (O57) -/

section
-- One proof after another: the threads of many at once outgrow the check's memory limit.
set_option Elab.async false
namespace Sys2Proof.Machine

/-! ## What LOG offers (R17) -/

theorem logOffer_eq_some {stream before behind : List StreamItem} {i : StreamItem} (split : stream = before ++ i :: behind)
    (queued : i.issued = false) (issued : ∀ j ∈ before, j.issued = true) (next : i.isHeader = false ∨ before = []) :
    logOffer stream = some i := by
  subst split
  cases before with
  | nil => simp [logOffer, queued]
  | cons b rest =>
    have first : (rest ++ i :: behind).find? (fun o => !o.issued) = some i :=
      find?_behind _ _ _ _ (fun j mem => by simp [issued j (List.mem_cons_of_mem _ mem)]) (by simp [queued])
    have record : i.isHeader = false := next.resolve_right (List.cons_ne_nil _ _)
    simp [logOffer, issued b List.mem_cons_self, first, record]

/-- LOG offers nothing when the first queued item, if there is one, is a header write with an item before it. -/
theorem logOffer_eq_none {stream : List StreamItem}
    (idle : ∀ before i behind, stream = before ++ i :: behind → i.issued = false → (∀ j ∈ before, j.issued = true) →
      i.isHeader = true ∧ before ≠ []) : logOffer stream = none := by
  cases stream with
  | nil => rfl
  | cons i behind =>
    cases issued : i.issued
    · exact absurd rfl (idle [] i behind rfl issued (by simp)).2
    · simp only [logOffer, issued, if_true]
      cases first : behind.find? fun o => !o.issued with
      | none => rfl
      | some o =>
        obtain ⟨queued, before, after, split, earlier⟩ := List.find?_eq_some_iff_append.1 first
        have header := (idle (i :: before) o after (by rw [split]; rfl) (by simpa using queued)
          (by simpa [issued] using earlier)).1
        simp [header]

theorem markIssued_append {before behind : List StreamItem} {i : StreamItem} (queued : i.issued = false)
    (issued : ∀ j ∈ before, j.issued = true) :
    markIssued i (before ++ i :: behind) = before ++ { i with issued := true } :: behind := by
  induction before with
  | nil => simp [markIssued]
  | cons b rest ih =>
    have other : b ≠ i := fun same => by simpa [same, queued] using issued b List.mem_cons_self
    simp [markIssued, other, ih fun j mem => issued j (List.mem_cons_of_mem _ mem)]

/-- A header write goes to copy A for an odd generation, to copy B for an even one (R21). -/
theorem LogController.copyAddress_generation (l : LogController) (generation : Num) :
    l.copyAddress (copyOfGeneration generation) = if generation.toNat % 2 = 1 then l.base else l.base + 256 := by
  have odd : copyOfGeneration generation = if generation.toNat % 2 = 1 then .a else .b := by
    rw [copyOfGeneration, BitVec.getLsbD, Nat.testBit_zero]
    exact if_congr decide_eq_true_iff rfl rfl
  rw [odd, apply_ite l.copyAddress]
  rfl

theorem LogController.itemRequest_record (l : LogController) (r : Record) (issued : Bool) :
    l.itemRequest { body := .record r, issued := issued } =
      writeRequest (l.base + BitVec.ofNat 32 (512 + r.position)) r.bytes :=
  rfl

theorem LogController.itemRequest_header (l : LogController) (purpose : HeaderPurpose) (copy : HeaderCopy) (issued : Bool) :
    l.itemRequest { body := .header purpose copy, issued := issued } =
      writeRequest (if copy.generation.toNat % 2 = 1 then l.base else l.base + 256) (copyBytes copy) := by
  rw [← LogController.copyAddress_generation]
  rfl

/-! ## What CAPTURE and HOST offer (R64, R88) -/

theorem findSome?_behind {α β : Type} {f : α → Option β} {before behind : List α} {x : α} {y : β}
    (nothing : ∀ b ∈ before, f b = none) (found : f x = some y) : (before ++ x :: behind).findSome? f = some y := by
  rw [List.findSome?_append, List.findSome?_eq_none_iff.2 nothing, Option.none_or, List.findSome?_cons, found]

/-- The run of a slot, if it is reading and not yet issued. -/
theorem filter_reading_eq_none {found : Option (Entry × Run)}
    (idle : ∀ p, found = some p → p.2.condition ≠ .reading false) :
    ((found.map Prod.snd).filter fun r => r.condition == .reading false) = none := by
  cases found with
  | none => rfl
  | some p => simp [Option.filter, idle p rfl]

theorem State.captureOffer_eq_none {s : State}
    (idle : ∀ id p, .run id ∈ s.staging.runSlots → s.findRun id = some p → p.2.condition ≠ .reading false) :
    s.captureOffer = none := by
  rw [State.captureOffer, List.findSome?_eq_none_iff]
  rintro (id | seq) mem
  · exact filter_reading_eq_none fun p => idle id p mem
  · rfl

theorem State.captureOffer_eq_some {s : State} {before after : List RunSlot} {id : Nat} {e : Entry} {run : Run}
    (slots : s.staging.runSlots = before ++ .run id :: after) (found : s.findRun id = some (e, run))
    (reading : run.condition = .reading false)
    (earlier : ∀ id' p, .run id' ∈ before → s.findRun id' = some p → p.2.condition ≠ .reading false) :
    s.captureOffer = some run := by
  rw [State.captureOffer, slots]
  refine findSome?_behind ?_ (by simp [found, reading])
  rintro (id' | seq) mem
  · exact filter_reading_eq_none fun p => earlier id' p mem
  · rfl

theorem State.hostOffer_isSome (s : State) : s.hostOffer.isSome = s.window.any Entry.isReady := by
  rw [State.hostOffer, List.isSome_find?]

theorem State.hostOffer_eq_some {s : State} {before after : List Entry} {e : Entry}
    (window : s.window = before ++ e :: after) (ready : e.phase = .ready) (earlier : ∀ x ∈ before, x.phase ≠ .ready) :
    s.hostOffer = some e := by
  rw [State.hostOffer, window]
  exact find?_behind _ _ _ _ (fun x mem => by simpa [Entry.isReady] using earlier x mem) (by simp [Entry.isReady, ready])

theorem State.hostOffer_eq_none {s : State} (idle : ¬∃ e ∈ s.window, e.phase = .ready) : s.hostOffer = none := by
  rw [State.hostOffer, List.find?_eq_none]
  simpa [Entry.isReady] using idle

theorem State.bypassed_eq (s : State) :
    s.bypassed = if s.window.any Entry.isReady then min 4 (s.port.bypass + 1) else 0 := by
  rw [State.bypassed, State.hostOffer_isSome]
  rfl

/-! ## The choice (R153) -/

/-- HOST goes out of turn only once it has been passed over four times. -/
theorem State.choose_inTurn {s : State} (inTurn : ¬((∃ e ∈ s.window, e.phase = .ready) ∧ 4 ≤ s.port.bypass)) :
    s.choose = s.byPriority := by
  unfold State.choose
  split
  · next e offer =>
    have ready : e.phase = .ready := by simpa [Entry.isReady] using List.find?_some offer
    exact if_neg fun late => inTurn ⟨⟨e, List.mem_of_find?_eq_some offer, ready⟩, late⟩
  · rfl

theorem State.choose_host {s : State} {e : Entry} (offer : s.hostOffer = some e)
    (turn : 4 ≤ s.port.bypass ∨ logOffer s.stream = none ∧ s.maintOffer = none ∧ s.captureOffer = none) :
    s.choose = some (.host e) := by
  rw [State.choose, offer]
  rcases turn with late | ⟨log, maint, capture⟩
  · exact if_pos late
  · have priority : s.byPriority = some (.host e) := by rw [State.byPriority, log, maint, capture, offer]
    simp only [priority, ite_self]

theorem exec_memoryGrant {s : State} (rst : s.rstLow = false) (free : s.port.outstanding.length < 4) {g : Grant}
    (chosen : s.choose = some g) : exec .memoryGrant s = .next (s.grant g) := by
  simp [exec, execMemoryGrant, rst, Config.outstandingCapacity, Nat.not_le.2 free, chosen]

theorem State.issue_eq (s : State) (claimant : Claimant) (owner : Owner) (request : MemRequest) (bypass : Nat) :
    s.issue claimant owner request bypass = { s with
      port := {
        outstanding := s.port.outstanding ++
          [{ claimant := claimant, owner := owner, request := request, orphan := false }]
        bypass := bypass } } :=
  rfl

/-! ## The span of an access (R88) -/

section
variable (address : Num) (length : Nat)

theorem spanStart_le : spanStart address ≤ address.toNat := Nat.div_mul_le_self _ _

theorem spanLength_bounds (nonempty : 1 ≤ length) :
    spanLength address length % 16 = 0 ∧ address.toNat + length ≤ spanStart address + spanLength address length ∧
      spanStart address + spanLength address length < address.toNat + length + 16 := by
  unfold spanLength spanStart
  omega

theorem intoSpan_length {α : Type} (fill : α) {xs : List α} (nonempty : 1 ≤ length) (len : xs.length = length) :
    (intoSpan fill address length xs).length = spanLength address length := by
  have bounds := spanLength_bounds address length nonempty
  have start := spanStart_le address
  simp only [intoSpan, List.length_append, List.length_replicate, len]
  omega

theorem intoSpan_inside {α : Type} (fill : α) {xs : List α} {k : Nat} {x : α} (item : xs[k]? = some x) :
    (intoSpan fill address length xs)[address.toNat - spanStart address + k]? = some x := by
  have inside : k < xs.length := (List.getElem?_eq_some_iff.1 item).1
  rw [intoSpan, List.getElem?_append_left (by simp [inside]), List.getElem?_append_right (by simp)]
  simpa using item

theorem intoSpan_outside {α : Type} (fill : α) {xs : List α} {k : Nat} (len : xs.length = length)
    (outside : k < address.toNat - spanStart address ∨ address.toNat - spanStart address + length ≤ k)
    (within : k < (intoSpan fill address length xs).length) : (intoSpan fill address length xs)[k]? = some fill := by
  unfold intoSpan at within ⊢
  rcases outside with ahead | behind
  · rw [List.append_assoc, List.getElem?_append_left (by simpa using ahead), List.getElem?_replicate_of_lt ahead]
  · simp only [List.length_append, List.length_replicate] at within
    rw [List.getElem?_append_right (by simpa [len] using behind)]
    refine List.getElem?_replicate_of_lt ?_
    simp only [List.length_append, List.length_replicate]
    omega

end

/-- Settles O57: the first offer in the order of priority is what each clause's premises say; HOST, once overdue, is looked
at before them. -/
theorem memoryGrantFollowsThePriority : Obligations.MemoryGrantFollowsThePriority := by
  intro s rst law offersHost bypassed overdue logIdle captureIdle issue
  refine ⟨fun full => ?_, fun log maint capture host => ?_, fun free => ⟨?_, ?_, ?_, ?_⟩, ?_⟩
  · simp [exec, execMemoryGrant, Config.outstandingCapacity, full]
  · have nothing : s.choose = none := by
      rw [State.choose_inTurn fun late => host late.1, State.byPriority, logOffer_eq_none log, maint,
        State.captureOffer_eq_none capture, State.hostOffer_eq_none host]
    simp [exec, execMemoryGrant, nothing]
  · intro before i behind stream queued issued next inTurn owner data address
    have offer := logOffer_eq_some stream queued issued next
    have chosen : s.choose = some (.log i) := by rw [State.choose_inTurn inTurn, State.byPriority, offer]
    rw [exec_memoryGrant rst free chosen, State.grant, stream, markIssued_append queued issued, State.bypassed_eq]
    obtain ⟨r | ⟨purpose, copy⟩, _⟩ := i
    · rw [LogController.itemRequest_record]; rfl
    · rw [LogController.itemRequest_header]; rfl
  · intro offer log maint inTurn
    have chosen : s.choose = some (.maint offer) := by
      rw [State.choose_inTurn inTurn, State.byPriority, logOffer_eq_none log, maint]
    rw [exec_memoryGrant rst free chosen, State.grant, State.bypassed_eq]
    rfl
  · intro before id after e run log maint slots found reading earlier inTurn
    have offer := State.captureOffer_eq_some slots found reading earlier
    have chosen : s.choose = some (.capture run) := by
      rw [State.choose_inTurn inTurn, State.byPriority, logOffer_eq_none log, maint, offer]
    rw [exec_memoryGrant rst free chosen, State.grant, State.issue_eq, State.bypassed_eq]
    exact congrArg _ (State.eq_of_blocks (window := State.mapEntries_all_window _ _) (port := rfl))
  · intro before e after window ready earlier turn
    have chosen : s.choose = some (.host e) :=
      State.choose_host (State.hostOffer_eq_some window ready earlier)
        (turn.imp And.right fun ⟨log, maint, capture⟩ =>
          ⟨logOffer_eq_none log, maint, State.captureOffer_eq_none capture⟩)
    rw [exec_memoryGrant rst free chosen, State.grant, State.issue_eq]
    exact congrArg _ (State.eq_of_blocks (window := WindowLaw.updateEntry (s := { s with port := _ }) law window _) (port := rfl))
  · intro e nonempty payload start r
    obtain ⟨multiple, covers, tight⟩ := spanLength_bounds e.address e.length nonempty
    have request : r = e.memRequest := rfl
    rw [Entry.memRequest] at request
    cases kind : e.kind
    · rw [kind] at request
      rw [request]
      exact ⟨rfl, rfl, multiple, covers, tight, fun _ => ⟨rfl, rfl⟩, fun write => nomatch write⟩
    · rw [kind] at request
      rw [request]
      have len := payload kind
      have masks : (e.payload.map Prod.fst).length = e.length := by simp [len]
      have bytes : (e.payload.map Prod.snd).length = e.length := by simp [len]
      have masks_length := intoSpan_length e.address e.length false nonempty masks
      refine ⟨rfl, rfl, multiple, covers, tight, fun read => (nomatch read), fun _ => ⟨_, rfl, masks_length,
        intoSpan_length e.address e.length 0 nonempty bytes, fun k mask byte item => ⟨?_, ?_⟩,
        fun k outside within => ?_⟩⟩
      · exact intoSpan_inside _ _ _ (by simp [item])
      · exact intoSpan_inside _ _ _ (by simp [item])
      · exact intoSpan_outside _ _ _ masks outside (by rw [masks_length]; exact within)

end Sys2Proof.Machine
end

/-! # Record headers and header copies read back (O15, O16) -/

section
-- One proof after another: the threads of many at once outgrow the check's memory limit.
set_option Elab.async false
namespace Sys2Proof.Machine

/-! ## Record headers (R4, R200) -/

section
variable (h : RecordHeader)

theorem shapeByte_back (back : h.back < 16) : ((shapeByte h).extractLsb' 0 4).toNat = h.back := by
  rw [shapeByte, BitVec.extractLsb'_append_eq_right, BitVec.toNat_ofNat, Nat.mod_eq_of_lt back]

theorem shapeByte_count (count : h.count < 8) : ((shapeByte h).extractLsb' 4 3).toNat = h.count := by
  rw [shapeByte, BitVec.extractLsb'_append_eq_of_le (le_refl 4), Nat.sub_self, BitVec.extractLsb'_append_eq_right,
    BitVec.toNat_ofNat, Nat.mod_eq_of_lt count]

theorem shapeByte_poison : (shapeByte h).getLsbD 7 = h.poison := by
  rw [shapeByte, BitVec.getLsbD_append, BitVec.getLsbD_append]
  simp

theorem sourceByte_requester : ((sourceByte h).extractLsb' 0 2).toFin = h.requester := by
  rw [sourceByte, BitVec.extractLsb'_append_eq_right]
  exact Fin.ext (by simp)

theorem sourceByte_kind : (sourceByte h).extractLsb' 4 2 = kindCode h.kind := by
  rw [sourceByte, BitVec.extractLsb'_append_eq_of_le (by decide), BitVec.extractLsb'_append_eq_of_le (by decide)]
  exact BitVec.extractLsb'_append_eq_right

theorem sourceByte_unassigned : (sourceByte h).extractLsb' 2 2 = 0 ∧ (sourceByte h).extractLsb' 6 2 = 0 := by
  constructor
  · rw [sourceByte, BitVec.extractLsb'_append_eq_of_le (by decide)]
    exact BitVec.extractLsb'_append_eq_right
  · rw [sourceByte, BitVec.extractLsb'_append_eq_of_le (by decide), BitVec.extractLsb'_append_eq_of_le (by decide),
      BitVec.extractLsb'_append_eq_of_le (by decide)]
    rfl

theorem kindOfCode_kindCode {kind : RecordKind} (assigned : kind ≠ .other) : kindOfCode (kindCode kind) = kind := by
  cases kind
  case other => exact absurd rfl assigned
  all_goals rfl

/-- A record header is read back from the sixteen bytes it is written as, whatever follows them (R200). -/
theorem parseHeader_headerBytes {h : RecordHeader} (back : h.back < 16) (count : h.count < 8) (kind : h.kind ≠ .other)
    (behind : List Byte) : parseHeader (headerBytes h ++ behind) = h := by
  have fields : parseHeader (headerBytes h ++ behind) =
      { seq := join32 (h.seq.extractLsb' 24 8) (h.seq.extractLsb' 16 8) (h.seq.extractLsb' 8 8) (h.seq.extractLsb' 0 8)
        epoch := join32 (h.epoch.extractLsb' 24 8) (h.epoch.extractLsb' 16 8) (h.epoch.extractLsb' 8 8)
          (h.epoch.extractLsb' 0 8)
        first := join32 (h.first.extractLsb' 24 8) (h.first.extractLsb' 16 8) (h.first.extractLsb' 8 8)
          (h.first.extractLsb' 0 8)
        back := ((shapeByte h).extractLsb' 0 4).toNat
        count := ((shapeByte h).extractLsb' 4 3).toNat
        poison := (shapeByte h).getLsbD 7
        requester := ((sourceByte h).extractLsb' 0 2).toFin
        kind := kindOfCode ((sourceByte h).extractLsb' 4 2)
        check := join16 (h.check.extractLsb' 8 8) (h.check.extractLsb' 0 8) } := rfl
  rw [fields, join32_le32, join32_le32, join32_le32, join16_le16, shapeByte_back h back, shapeByte_count h count,
    shapeByte_poison, sourceByte_requester, sourceByte_kind, kindOfCode_kindCode kind]

theorem unassignedClear_headerBytes : unassignedClear (headerBytes h) = true := by
  obtain ⟨low, high⟩ := sourceByte_unassigned h
  have source : byteAt (headerBytes h) 13 = sourceByte h := rfl
  simp [unassignedClear, source, low, high]

/-- What the check code of a sealed record covers is its message and its data; behind a filler's header nothing is
covered (R4). -/
theorem codeRight_sealed {h : RecordHeader} {data covered : List Byte} (behind : List Byte) (back : h.back < 16)
    (count : h.count < 8) (kind : h.kind ≠ .other)
    (covers : checkedMessage h (headerBytes (sealHeader h data) ++ behind) = headerMessage h ++ data) :
    codeRight (parseHeader (headerBytes (sealHeader h data) ++ covered)) (headerBytes (sealHeader h data) ++ behind) = true := by
  have message : checkedMessage (sealHeader h data) (headerBytes (sealHeader h data) ++ behind) = headerMessage h ++ data :=
    covers
  rw [parseHeader_headerBytes (h := sealHeader h data) back count kind, codeRight, message]
  simp [sealHeader, recordCheck]

theorem take_sealed (data behind : List Byte) :
    (headerBytes (sealHeader h data) ++ behind).take 14 = headerMessage h := by
  rw [headerBytes_sealHeader, List.append_assoc, List.take_left' (headerMessage_length h)]

end

/-- Settles O15: a sealed header is read back as itself, and what its check code covers are the fourteen bytes before the
code, with the data of a data record. -/
theorem createdRecordReadsBack : Obligations.CreatedRecordReadsBack := by
  refine ⟨fun h back count kind => ⟨headerBytes_length h, ?_, unassignedClear_headerBytes h⟩, ?_, ?_⟩
  · simpa using parseHeader_headerBytes back count kind []
  · intro l run epoch q poison data _ few back length r
    refine ⟨?_, codeRight_sealed data (Nat.lt_of_le_of_lt back (by decide)) (Nat.lt_of_le_of_lt few (by decide))
      RecordKind.noConfusion ?_⟩
    · simp [r, Record.bytes, LogController.dataRecord, headerBytes_length, length, recordLength]
    · rw [checkedMessage, take_sealed, List.drop_left' (headerBytes_length _), List.take_of_length_le length.le]
  · intro l L epoch q r behind back filler
    rw [LogController.filler] at filler
    split at filler
    · cases filler
      refine ⟨by simp [Record.bytes, headerBytes_length], ?_⟩
      rw [Record.bytes, List.append_assoc, List.nil_append]
      exact codeRight_sealed behind (Nat.lt_of_le_of_lt back (by decide)) (Nat.zero_lt_succ 7) RecordKind.noConfusion
        ((take_sealed _ [] behind).trans (List.append_nil _).symm)
    · cases filler

/-! ## Header copies (R20, R201) -/

theorem byteAt_behind (message bytes : List Byte) (offset : Nat) :
    byteAt (message ++ bytes) (message.length + offset) = byteAt bytes offset := by
  rw [byteAt, List.getD_append_right _ _ _ _ (Nat.le_add_right _ _), Nat.add_sub_cancel_left, byteAt]

theorem readLe32_shift (message bytes : List Byte) (offset : Nat) :
    readLe32 (message ++ bytes) (message.length + offset) = readLe32 bytes offset := by
  simp only [readLe32, Nat.add_assoc, byteAt_behind]

/-- A mark slot is read back from behind the bytes before it. -/
theorem parseMark_behind {message : List Byte} {k : Nat} {m : Mark} (before : message.length = 32 + 24 * k)
    (offset : m.offset < 2 ^ 32) (back : m.back < 256) (behind : List Byte) :
    parseMark (message ++ (markBytes m ++ behind)) k = m := by
  have slot : parseMark (message ++ (markBytes m ++ behind)) k =
      { epoch := join32 (m.epoch.extractLsb' 24 8) (m.epoch.extractLsb' 16 8) (m.epoch.extractLsb' 8 8)
          (m.epoch.extractLsb' 0 8)
        firstSeq := join32 (m.firstSeq.extractLsb' 24 8) (m.firstSeq.extractLsb' 16 8) (m.firstSeq.extractLsb' 8 8)
          (m.firstSeq.extractLsb' 0 8)
        offset := (join32 ((num m.offset).extractLsb' 24 8) ((num m.offset).extractLsb' 16 8)
          ((num m.offset).extractLsb' 8 8) ((num m.offset).extractLsb' 0 8)).toNat
        duration := join32 (m.duration.extractLsb' 24 8) (m.duration.extractLsb' 16 8) (m.duration.extractLsb' 8 8)
          (m.duration.extractLsb' 0 8)
        back := (BitVec.ofNat 8 m.back).toNat
        recovered := (flagByte m.recovered).getLsbD 0 } := by
    rw [parseMark, ← before]
    simp only [readLe32_shift, byteAt_behind]
    rw [← Nat.add_zero message.length]
    simp only [readLe32_shift]
    rfl
  have flag : (flagByte m.recovered).getLsbD 0 = m.recovered := by cases m.recovered <;> rfl
  rw [slot, join32_le32, join32_le32, join32_le32, join32_le32, flag, num, BitVec.toNat_ofNat, BitVec.toNat_ofNat,
    Nat.mod_eq_of_lt offset, Nat.mod_eq_of_lt back]

/-- The header fields and the check code surround the mark slots. -/
theorem copyBytes_split {c : HeaderCopy} {before after : List Mark} {m : Mark} (marks : c.marks = before ++ m :: after) :
    ∃ message behind, copyBytes c = message ++ (markBytes m ++ behind) ∧ message.length = 32 + 24 * before.length := by
  refine ⟨le32 c.format ++ le32 c.generation ++ le32 c.ringSize ++ le32 c.nextEpoch ++ le32 c.nextSeq ++
    [BitVec.ofNat 8 c.marks.length] ++ List.replicate 11 0 ++ before.flatMap markBytes,
    after.flatMap markBytes ++ List.replicate (24 * (8 - c.marks.length)) 0 ++ List.replicate 28 0 ++ le32 c.check, ?_, ?_⟩
  · rw [copyBytes, copyMessage, markSlots]
    simp [marks]
  · rw [List.length_append, flatMap_markBytes_length]
    rfl

theorem parseMark_copyBytes {c : HeaderCopy} {before after : List Mark} {m : Mark} (marks : c.marks = before ++ m :: after)
    (offset : m.offset < 2 ^ 32) (back : m.back < 256) : parseMark (copyBytes c) before.length = m := by
  obtain ⟨message, behind, bytes, length⟩ := copyBytes_split marks
  rw [bytes, parseMark_behind length offset back]

/-- The fields of a header copy ahead of its mark slots. -/
theorem copyBytes_fields (c : HeaderCopy) : ∃ behind, copyBytes c =
    le32 c.format ++ (le32 c.generation ++ (le32 c.ringSize ++ (le32 c.nextEpoch ++ (le32 c.nextSeq ++
      ([BitVec.ofNat 8 c.marks.length] ++ behind))))) :=
  ⟨List.replicate 11 0 ++ (markSlots c.marks ++ (List.replicate 28 0 ++ le32 c.check)),
    by simp only [copyBytes, copyMessage, List.append_assoc]⟩

/-- A header copy is read back from the bytes it is written as (R201). -/
theorem parseCopy_copyBytes {c : HeaderCopy} (few : c.marks.length ≤ 8)
    (fits : ∀ m ∈ c.marks, m.offset < 2 ^ 32 ∧ m.back < 256) :
    markCountByte (copyBytes c) = c.marks.length ∧ parseCopy (copyBytes c) = c := by
  obtain ⟨behind, bytes⟩ := copyBytes_fields c
  have count : markCountByte (copyBytes c) = c.marks.length := by
    have byte : markCountByte (copyBytes c) = (BitVec.ofNat 8 c.marks.length).toNat := by rw [bytes]; rfl
    rw [byte, BitVec.toNat_ofNat]
    exact Nat.mod_eq_of_lt (Nat.lt_of_le_of_lt few (by decide))
  have marks : (List.range c.marks.length).map (parseMark (copyBytes c)) = c.marks := by
    refine List.ext_getElem (by simp) fun k inside inside' => ?_
    obtain ⟨offset, back⟩ := fits c.marks[k] (List.getElem_mem inside')
    have split : c.marks = c.marks.take k ++ c.marks[k] :: c.marks.drop (k + 1) := by simp
    have read := parseMark_copyBytes split offset back
    rw [List.length_take_of_le inside'.le] at read
    simpa using read
  have format : readLe32 (copyBytes c) 0 = c.format := by rw [bytes]; exact join32_le32 _
  have generation : readLe32 (copyBytes c) 4 = c.generation := by rw [bytes]; exact join32_le32 _
  have ringSize : readLe32 (copyBytes c) 8 = c.ringSize := by rw [bytes]; exact join32_le32 _
  have nextEpoch : readLe32 (copyBytes c) 12 = c.nextEpoch := by rw [bytes]; exact join32_le32 _
  have nextSeq : readLe32 (copyBytes c) 16 = c.nextSeq := by rw [bytes]; exact join32_le32 _
  have check : readLe32 (copyBytes c) 252 = c.check := parseCopy_check c few
  refine ⟨count, ?_⟩
  rw [parseCopy, count, format, generation, ringSize, nextEpoch, nextSeq, check,
    if_pos (c := c.marks.length ≤ Config.markCapacity) few, marks]

/-- Settles O16: the copy read back is the copy written, so its fields are the log's own, which are valid. -/
theorem headerWriteReadsBackValid : Obligations.HeaderWriteReadsBackValid := by
  intro l generation nonempty few increase placed copy
  have fits : ∀ m ∈ copy.marks, m.offset < 2 ^ 32 ∧ m.back < 256 := fun m mem => by
    obtain ⟨_, _, offset, back⟩ := placed m mem
    exact ⟨offset, Nat.lt_of_le_of_lt back (by decide)⟩
  obtain ⟨count, read⟩ := parseCopy_copyBytes (c := copy) few fits
  have fields : copyFieldsValid l.ringSize (copyOfGeneration generation) copy.marks.length copy = true := by
    have offsets : copy.marks.all (fun m => decide (m.offset % 16 = 0 ∧ m.offset < l.ringSize ∧ m.back ≤ 9)) = true := by
      rw [List.all_eq_true]
      intro m mem
      obtain ⟨aligned, inside, _, back⟩ := placed m mem
      exact decide_eq_true ⟨aligned, inside, back⟩
    rw [copyFieldsValid, offsets]
    simp [copy, LogController.headerCopy, nonempty, few, increase, Config.markCapacity]
  have valid := validCopy_headerCopy l.ringSize (copyOfGeneration generation) l generation few
    (by rw [count, read]; exact fields)
  rw [read] at valid
  exact ⟨copyBytes_length copy few, valid, rfl, rfl, rfl, rfl, rfl, rfl⟩

end Sys2Proof.Machine
end

/-! # The boundary of a checkpoint (O37) -/

section
-- One proof after another: the threads of many at once outgrow the check's memory limit.
set_option Elab.async false
namespace Sys2Proof.Machine

/-! ## What the creation of records leaves (R65) -/

/-- What becomes of a state when records are created in it: the log pointers, the staging slots, the Capture Set and the
stream change, and the window's entries keep their place and their epoch tag. -/
structure Created (s t : State) : Prop where
  state : t = { s with
    log := t.log, events := t.events, window := t.window, staging := t.staging, stream := t.stream
    capture := { s.capture with set := t.capture.set, walkOwed := t.capture.walkOwed } }
  log : t.log = { s.log with
    nextSeq := t.log.nextSeq, writePos := t.log.writePos, lastLength := t.log.lastLength
    reserved := t.log.reserved, lowSpace := t.log.lowSpace }
  stream : ∃ more, t.stream = s.stream ++ more ∧ ∀ i ∈ more, i.isHeader = false ∧ i.issued = false
  epochs : t.window.map Entry.epoch = s.window.map Entry.epoch

theorem Created.refl (s : State) : Created s s := ⟨rfl, rfl, ⟨[], by simp, by simp⟩, rfl⟩

theorem Created.trans {s t u : State} (first : Created s t) (second : Created t u) : Created s u := by
  obtain ⟨more, stream, records⟩ := first.stream
  obtain ⟨more', stream', records'⟩ := second.stream
  refine ⟨?_, ?_, ⟨more ++ more', by rw [stream', stream, List.append_assoc], fun i mem => ?_⟩,
    second.epochs.trans first.epochs⟩
  · exact second.state.trans (congrArg (fun x : State => { x with
      log := u.log, events := u.events, window := u.window, staging := u.staging, stream := u.stream
      capture := { x.capture with set := u.capture.set, walkOwed := u.capture.walkOwed } }) first.state)
  · exact second.log.trans (congrArg (fun x : LogController => { x with
      nextSeq := u.log.nextSeq, writePos := u.log.writePos, lastLength := u.log.lastLength
      reserved := u.log.reserved, lowSpace := u.log.lowSpace }) first.log)
  · exact (List.mem_append.1 mem).elim (records i) (records' i)

theorem Created.appendFiller (s : State) (f : Option Record) : Created s (s.appendFiller f) := by
  cases f with
  | none => exact .refl s
  | some r => exact ⟨rfl, rfl, ⟨[_], rfl, by simp [StreamItem.isHeader]⟩, rfl⟩

theorem Entry.recordRun_epoch (e : Entry) (id : Nat) (seq : Num) : (e.recordRun id seq).epoch = e.epoch := by
  rw [Entry.recordRun_eq]

theorem Created.enterRecord (s : State) (e : Entry) (run : Run) (r : Record) (taken : Nat) :
    Created s (s.enterRecord e run r taken) := by
  rw [State.enterRecord_eq]
  refine ⟨rfl, ?_, ⟨[_], rfl, by simp [StreamItem.isHeader]⟩, ?_⟩
  · exact (State.compareLowSpace_log _).trans (by rw [State.compareLowSpace_log]; rfl)
  · rw [List.map_map]
    refine List.map_congr_left fun x _ => ?_
    rw [Function.comp_apply, apply_ite Entry.epoch, Entry.recordRun_epoch, ite_self]

theorem Created.createDeferred (s : State) (id : Nat) : Created s (s.createDeferred id) := by
  unfold State.createDeferred
  split
  · split
    · exact (Created.appendFiller _ _).trans (Created.enterRecord _ _ _ _ _)
    · exact .refl s
  · exact .refl s

theorem Created.foldl (ids : List Nat) (s : State) : Created s (ids.foldl State.createDeferred s) := by
  induction ids generalizing s with
  | nil => exact .refl s
  | cons id rest ih => exact (Created.createDeferred s id).trans (ih _)

/-! ## Deferred runs -/

theorem State.findRun_mem {s : State} {id : Nat} {e : Entry} {run : Run} (found : s.findRun id = some (e, run)) :
    e ∈ s.window ∧ run ∈ e.runs ∧ run.id = id := by
  obtain ⟨x, mem, here⟩ := List.exists_of_findSome?_eq_some found
  obtain ⟨r, first, pair⟩ := Option.map_eq_some_iff.1 here
  cases pair
  exact ⟨mem, List.mem_of_find?_eq_some first, by simpa using List.find?_some first⟩

/-- Without a deferred run in the window no record is created at the boundary. -/
theorem State.createAllDeferred_none {s : State} (none : ∀ e ∈ s.window, ∀ r ∈ e.runs, r.isDeferred = false) :
    s.createAllDeferred = s := by
  have nothing : s.deferredRuns = [] := by
    rw [State.deferredRuns, List.filterMap_eq_nil_iff]
    rintro (id | seq) _
    · have quiet : ((s.findRun id).any fun p => p.2.isDeferred) = false := by
        cases found : s.findRun id with
        | none => rfl
        | some p =>
          obtain ⟨mem, run_mem, _⟩ := State.findRun_mem (e := p.1) (run := p.2) found
          exact none _ mem _ run_mem
      simp [quiet]
    · rfl
  rw [State.createAllDeferred, nothing, List.foldl_nil]

theorem abandonRuns_isDeferred {runs : List Run} : ∀ r ∈ abandonRuns runs, r.isDeferred = false := by
  intro r mem
  obtain ⟨x, _, kept⟩ := List.mem_filterMap.1 mem
  split at kept
  · cases kept; rfl
  · next abandoned => cases kept; simp [Run.isDeferred, abandoned]
  · cases kept

/-! ## The deferred run as its capture read's return would record it -/

/-- The state with another condition for a run of the entry of a key. -/
def State.setCondition (v : State) (e : Entry) (id : Nat) (condition : RunCondition) : State :=
  { v with
    window := v.window.map fun x =>
      if x.requester = e.requester ∧ x.tag = e.tag then x.setRun id condition else x }

theorem Entry.recordRun_setRun (x : Entry) (id : Nat) (condition : RunCondition) (seq : Num) :
    (x.setRun id condition).recordRun id seq = x.recordRun id seq := by
  have runs : (x.setRun id condition).runs.map (fun y => if y.id = id then { y with condition := .recorded } else y) =
      x.runs.map fun y => if y.id = id then { y with condition := .recorded } else y := by
    rw [Entry.setRun, List.map_map]
    refine List.map_congr_left fun y _ => ?_
    by_cases own : y.id = id <;> simp [own]
  rw [Entry.recordRun_eq, Entry.recordRun_eq, runs]
  rfl

theorem Entry.find?_setRun (x : Entry) (id : Nat) (condition : RunCondition) :
    ((x.setRun id condition).runs.find? fun r => r.id == id) =
      (x.runs.find? fun r => r.id == id).map fun r => { r with condition := condition } := by
  have same : ((fun r : Run => r.id == id) ∘ fun r => if r.id = id then { r with condition := condition } else r) =
      fun r => r.id == id := by
    funext r
    rw [Function.comp_apply]
    split <;> rfl
  rw [Entry.setRun, List.find?_map, same]
  cases first : x.runs.find? fun r => r.id == id with
  | none => rfl
  | some r =>
    have own : r.id = id := by simpa using List.find?_some first
    rw [Option.map_some, Option.map_some, if_pos own]

section
variable (v : State) (e : Entry) (run : Run) (condition : RunCondition)

/-- A record enters the log alike whatever its run's condition was. -/
theorem State.enterRecord_setCondition (r : Record) (taken : Nat) :
    (v.setCondition e run.id condition).enterRecord (e.setRun run.id condition) { run with condition := condition } r taken =
      v.enterRecord e run r taken := by
  obtain ⟨log, events⟩ := State.compareLowSpace_congr
    (s := { v.setCondition e run.id condition with log := { v.log.advance r with reserved := v.log.reserved - run.charge } })
    (t := { v with log := { v.log.advance r with reserved := v.log.reserved - run.charge } }) rfl rfl
  rw [State.enterRecord_eq, State.enterRecord_eq]
  refine State.eq_of_blocks (pending := rfl) (rstLow := rfl) (host := rfl) (window := ?_) (regions := rfl) (capture := rfl)
    (staging := rfl) (stream := rfl) (log := log) (rollback := rfl) (scan := rfl) (maintOffer := rfl) (port := rfl)
    (events := ?_) (link := rfl)
  · rw [State.setCondition, List.map_map]
    refine List.map_congr_left fun x _ => ?_
    by_cases own : x.requester = e.requester ∧ x.tag = e.tag
    · have own' : (x.setRun run.id condition).requester = (e.setRun run.id condition).requester ∧
          (x.setRun run.id condition).tag = (e.setRun run.id condition).tag := own
      rw [Function.comp_apply, if_pos own, if_pos own, if_pos own', Entry.recordRun_setRun]
    · have own' : ¬(x.requester = (e.setRun run.id condition).requester ∧ x.tag = (e.setRun run.id condition).tag) := own
      rw [Function.comp_apply, if_neg own, if_neg own, if_neg own']
  · simp only [← events]; rfl

theorem State.createRecord_setCondition (poison : Bool) (data : List Byte) :
    (v.setCondition e run.id condition).createRecord (e.setRun run.id condition) { run with condition := condition } poison
      data = v.createRecord e run poison data := by
  rw [State.createRecord, State.createRecord]
  have needed : (v.setCondition e run.id condition).log.filler (Run.length { run with condition := condition })
      (e.setRun run.id condition).epoch (e.setRun run.id condition).requester =
        v.log.filler run.length e.epoch e.requester := rfl
  rw [needed]
  cases v.log.filler run.length e.epoch e.requester with
  | none => exact v.enterRecord_setCondition e run condition _ _
  | some f => exact (v.appendFiller (some f)).enterRecord_setCondition e run condition _ _

variable {v e run}

/-- The run is found again under its new condition. -/
theorem State.findRun_setCondition (found : v.findRun run.id = some (e, run)) :
    (v.setCondition e run.id condition).findRun run.id =
      some (e.setRun run.id condition, { run with condition := condition }) := by
  obtain ⟨before, x, after, window, here, earlier⟩ := List.findSome?_eq_some_iff.1 found
  obtain ⟨r, first, pair⟩ := Option.map_eq_some_iff.1 here
  cases pair
  rw [State.findRun, State.setCondition, window, List.map_append, List.map_cons]
  refine findSome?_behind (fun y mem => ?_) ?_
  · obtain ⟨x, inside, rfl⟩ := List.mem_map.1 mem
    have absent := Option.map_eq_none_iff.1 (earlier x inside)
    split
    · rw [Entry.find?_setRun, absent]; rfl
    · rw [absent]; rfl
  · rw [if_pos ⟨rfl, rfl⟩, Entry.find?_setRun, first]; rfl

end

/-- A deferred run is recorded as the return of its capture read would now record it (R39). -/
theorem exec_captureReadResponse_deferred {v : State} {id : Nat} {e : Entry} {run : Run} {poison : Bool} {data : List Byte}
    (boundary : v.log.reservedEpoch = none) (found : v.findRun id = some (e, run))
    (deferred : run.condition = .deferred poison data) (read : Outstanding)
    (shape : read = {
      claimant := .capture, owner := .capture id, orphan := false
      request := { kind := .read, address := run.first, length := data.length, enables := none, data := [] } }) :
    exec (.captureReadResponse (if poison then .error else .okay data))
      { v.setCondition e id (.reading true) with
        port := { v.port with outstanding := read :: v.port.outstanding } } = .next (v.createDeferred id) := by
  obtain ⟨_, _, rfl⟩ := State.findRun_mem found
  have again := State.findRun_setCondition (.reading true) found
  have created : v.createDeferred run.id = v.createRecord e run poison data := by
    simp only [State.createDeferred, found, deferred]
  have answer := exec_captureReadResponse
    (s := { v.setCondition e run.id (.reading true) with
      port := { v.port with outstanding := read :: v.port.outstanding } })
    (run := { run with condition := .reading true })
    poison data rfl (by rw [shape]) (by rw [shape]) (by rw [shape]) (by rw [shape]) again rfl
  have past : ¬(v.log.reservedEpoch = some (e.setRun run.id (.reading true)).epoch) := by rw [boundary]; exact nofun
  refine (answer.trans (if_neg past)).trans (congrArg _ ?_)
  rw [created, ← v.createRecord_setCondition e run (.reading true)]
  cases poison <;> rfl

/-! ## The new mark (R38) -/

section
variable {s : State} {older : List Mark} {closing : Mark}

theorem State.closeMark_log (marks : s.log.marks = older ++ [closing]) :
    s.closeMark.log = { s.log with marks := older ++ [{ closing with duration := s.log.timer.counter }] } := by
  rw [State.closeMark, State.modLog_log, marks, closeNewest_append]

/-- With room for the new mark nothing is dropped. -/
theorem State.dropForBoundary_few (few : s.log.marks.length < 8) : s.dropForBoundary = s :=
  if_neg (Nat.not_le.2 few)

/-- A full list loses its oldest mark, with EPOCH_DROPPED and the low-space comparison, and a walk falls due (R38 step 2). -/
theorem State.dropForBoundary_full (full : 8 ≤ s.log.marks.length) :
    s.dropForBoundary = (State.compareLowSpace { s with
      log := { s.log with marks := s.log.marks.drop 1, tail := oldestOffset (s.log.marks.drop 1) }
      events := s.events.post
        { kind := .epochDropped, epoch := (s.dropMarks 1).log.currentEpoch, address := none, requester := none,
          detail := .number (oldestEpoch s.log.marks) } }).oweWalk := if_pos full

end

theorem State.oweWalkIf_eq (s : State) (due : Bool) :
    s.oweWalkIf due = { s with capture := { s.capture with walkOwed := s.capture.walkOwed || due } } := by
  cases due
  · exact State.eq_of_blocks (capture := by simp [State.oweWalkIf])
  · exact State.eq_of_blocks (capture := by simp [State.oweWalkIf, State.oweWalk])

/-- What an abandonment of captures changes (R70). -/
theorem State.abandonCaptures_eq (s : State) (p : Entry → Bool) :
    s.abandonCaptures p = { s with
      window := s.window.map fun e => if p e then e.abandon else e
      log := { s.log with reserved := s.log.reserved - reservations (s.window.filter p) }
      staging := s.staging.freeRuns ((s.window.filter p).flatMap Entry.freedRuns)
      capture := { s.capture with walkOwed := s.capture.walkOwed || (reservations (s.window.filter p) != 0) } } := by
  rw [State.abandonCaptures, State.oweWalkIf_eq]
  rfl

/-- The restart of the uncommitted entries of the closing epoch (R39). -/
def State.restartClosing (v : State) (closing reserved : Num) : State :=
  (v.abandonCaptures fun e => e.uncommittedIn closing && e.isLoggedWrite).mapEntries (fun e => e.uncommittedIn closing)
    fun e => e.restart reserved

theorem Entry.uncommittedIn_iff (e : Entry) (closing : Num) :
    e.uncommittedIn closing = true ↔ e.epoch = closing ∧ e.committed = false := by
  simp [Entry.uncommittedIn]

theorem State.restartClosing_window (v : State) (closing reserved : Num) :
    (v.restartClosing closing reserved).window = v.window.map fun e =>
      if e.epoch = closing ∧ e.committed = false then
        if e.isLoggedWrite then
          { e with
            epoch := reserved, waits := { hit := none, own := none }, runs := abandonRuns e.runs
            phase := if e.heldFor .freeze then e.phase else .ordered }
        else { e with epoch := reserved }
      else e := by
  have abandoned : (v.abandonCaptures fun e => e.uncommittedIn closing && e.isLoggedWrite).window =
      v.window.map fun e => if e.uncommittedIn closing && e.isLoggedWrite then e.abandon else e := by
    rw [State.abandonCaptures_eq]
  have entries : (v.restartClosing closing reserved).window =
      (v.abandonCaptures fun e => e.uncommittedIn closing && e.isLoggedWrite).window.map fun e =>
        if e.uncommittedIn closing then e.restart reserved else e := rfl
  rw [entries, abandoned, List.map_map]
  refine List.map_congr_left fun e _ => ?_
  rw [Function.comp_apply]
  by_cases uncommitted : e.epoch = closing ∧ e.committed = false
  · have here := (e.uncommittedIn_iff closing).2 uncommitted
    rw [if_pos uncommitted]
    by_cases write : e.isLoggedWrite = true
    · have write' : e.abandon.isLoggedWrite = true := write
      have here' : e.abandon.uncommittedIn closing = true := here
      have held : e.abandon.heldFor .freeze = e.heldFor .freeze := rfl
      rw [here, write, Bool.and_self, if_pos rfl, if_pos here', if_pos rfl, Entry.restart, if_pos write', held]
      cases e.heldFor .freeze <;> rfl
    · rw [here, Bool.eq_false_of_not_eq_true write, Bool.and_false]
      simp [here, Entry.restart, Bool.eq_false_of_not_eq_true write]
  · have elsewhere : e.uncommittedIn closing = false := by
      rwa [← Bool.not_eq_true, Entry.uncommittedIn_iff]
    rw [if_neg uncommitted, elsewhere, Bool.false_and]
    simp [elsewhere]

theorem State.restartClosing_eq (v : State) (closing reserved : Num) :
    v.restartClosing closing reserved = { v with
      log := { v.log with reserved := (v.restartClosing closing reserved).log.reserved }
      capture := { v.capture with walkOwed := (v.restartClosing closing reserved).capture.walkOwed }
      staging := { v.staging with runSlots := (v.restartClosing closing reserved).staging.runSlots }
      window := (v.restartClosing closing reserved).window } := by
  rw [State.restartClosing, State.abandonCaptures_eq]
  rfl

theorem State.restartClosing_slots (v : State) (closing reserved : Num) :
    ∀ slot ∈ (v.restartClosing closing reserved).staging.runSlots, slot ∈ v.staging.runSlots := by
  intro slot mem
  have freed : (v.restartClosing closing reserved).staging = v.staging.freeRuns
      ((v.window.filter fun e => e.uncommittedIn closing && e.isLoggedWrite).flatMap Entry.freedRuns) := by
    rw [State.restartClosing, State.abandonCaptures_eq]; rfl
  rw [freed] at mem
  exact List.mem_of_mem_filter mem

/-- The state of a boundary before the deferred runs are recorded (R38, R39): `compared` is the state after the drop, with
`log` and the Event Queue of the statement. -/
theorem State.boundary_eq {s compared : State} {reserved : Num} {kept : List Mark} {closing closed : Mark}
    {log : LogController} {owed : Bool} (epoch : s.log.currentEpoch = closing.epoch)
    (drop : s.closeMark.dropForBoundary = { s with
      log := compared.log, events := compared.events, capture := { s.capture with walkOwed := owed } })
    (marks : compared.log.marks = kept ++ [closed])
    (opens : log = { compared.log with
      marks := kept ++ [closed, compared.log.newMark reserved]
      tail := oldestOffset (kept ++ [closed, compared.log.newMark reserved])
      reservedEpoch := none, timer := { ticks := 0, counter := 0, fired := false, due := none } }) :
    ∃ u : State, s.boundary reserved = u.createAllDeferred ∧
      u = { s with
        log := { log with generation := log.generation + 1, reserved := u.log.reserved }
        events := compared.events
        capture := { s.capture with set := [], walkOwed := u.capture.walkOwed }
        staging := { s.staging with runSlots := u.staging.runSlots }
        stream := s.stream ++ [{ body := .header .checkpoint (log.headerCopy (log.generation + 1)), issued := false }]
        window := s.window.map fun e =>
          if e.epoch = closing.epoch ∧ e.committed = false then
            if e.isLoggedWrite then
              { e with
                epoch := reserved, waits := { hit := none, own := none }, runs := abandonRuns e.runs
                phase := if e.heldFor .freeze then e.phase else .ordered }
            else { e with epoch := reserved }
          else e } ∧
      ∀ slot, slot ∈ u.staging.runSlots → slot ∈ s.staging.runSlots := by
  have opened : compared.log.appendMark (compared.log.newMark reserved) = { compared.log with
      marks := kept ++ [closed, compared.log.newMark reserved]
      tail := oldestOffset (kept ++ [closed, compared.log.newMark reserved]) } := by
    simp [LogController.appendMark, marks]
  let v : State := { s with
    log := { log with generation := log.generation + 1 }, events := compared.events
    capture := { s.capture with set := [], walkOwed := owed }
    stream := s.stream ++ [{ body := .header .checkpoint (log.headerCopy (log.generation + 1)), issued := false }] }
  have placed : ((s.closeMark.dropForBoundary.openMark reserved).clearCaptureSet.restartTimer.placeHeader .checkpoint) = v := by
    simp only [v]
    rw [drop, opens, State.openMark, State.modLog, opened]
    rfl
  refine ⟨v.restartClosing closing.epoch reserved, ?_, ?_, v.restartClosing_slots _ _⟩
  · rw [State.boundary, epoch, placed]
    rfl
  · have window := v.restartClosing_window closing.epoch reserved
    rw [← window]
    exact v.restartClosing_eq _ _

section
variable {s : State} {older : List Mark} {closing closed : Mark}

/-- The closing mark and the drop, for a list with room (R38). -/
theorem State.closeMark_drop_few (marks : s.log.marks = older ++ [closing]) (few : older.length < 7)
    (closes : closed = { closing with duration := s.log.timer.counter }) :
    s.closeMark.dropForBoundary = { s with log := { s.log with marks := older ++ [closed] } } := by
  have room : s.closeMark.log.marks.length < 8 := by
    rw [State.closeMark_log marks, List.length_append]
    exact Nat.add_lt_add_right few 1
  rw [State.dropForBoundary_few room, State.closeMark, State.modLog, marks, closeNewest_append, closes]
  rfl

/-- The closing mark and the drop, for a full list (R38). -/
theorem State.closeMark_drop_full (marks : s.log.marks = older ++ [closing]) (full : older.length = 7)
    (reported : s.log.engine ≠ .scanning) (closes : closed = { closing with duration := s.log.timer.counter })
    {compared : State}
    (compares : compared = State.compareLowSpace { s with
      log := { s.log with marks := older.drop 1 ++ [closed], tail := oldestOffset (older.drop 1 ++ [closed]) }
      events := s.events.post
        { kind := .epochDropped, epoch := closing.epoch, address := none, requester := none,
          detail := .number (oldestEpoch s.log.marks) } }) :
    s.closeMark.dropForBoundary = { s with
      log := compared.log, events := compared.events, capture := { s.capture with walkOwed := true } } := by
  have log := State.closeMark_log marks
  rw [← closes] at log
  have nonempty : 1 ≤ older.length := by omega
  have all : 8 ≤ s.closeMark.log.marks.length := by
    rw [log, List.length_append, full]; exact Nat.le_refl 8
  have kept : s.closeMark.log.marks.drop 1 = older.drop 1 ++ [closed] := by
    rw [log, List.drop_append_of_le_length nonempty]
  have epoch : (s.closeMark.dropMarks 1).log.currentEpoch = closing.epoch := by
    have engine : (s.closeMark.dropMarks 1).log.engine ≠ .scanning := reported
    have newest : (s.closeMark.dropMarks 1).log.marks = older.drop 1 ++ [closed] := kept
    rw [LogController.currentEpoch_eq _ engine, newest, newestEpoch, List.getLast?_concat, closes]
  have oldest : oldestEpoch s.closeMark.log.marks = oldestEpoch s.log.marks := by
    rw [log, marks]
    cases older with
    | nil => cases full
    | cons m rest => rfl
  obtain ⟨same_log, same_events⟩ := State.compareLowSpace_congr
    (s := { s.closeMark with
      log := { s.closeMark.log with marks := older.drop 1 ++ [closed], tail := oldestOffset (older.drop 1 ++ [closed]) }
      events := s.closeMark.events.post
        { kind := .epochDropped, epoch := closing.epoch, address := none, requester := none,
          detail := .number (oldestEpoch s.log.marks) } })
    (t := { s with
      log := { s.log with marks := older.drop 1 ++ [closed], tail := oldestOffset (older.drop 1 ++ [closed]) }
      events := s.events.post
        { kind := .epochDropped, epoch := closing.epoch, address := none, requester := none,
          detail := .number (oldestEpoch s.log.marks) } }) (by rw [log]) rfl
  rw [← compares] at same_log same_events
  rw [State.dropForBoundary_full all, kept, epoch, oldest]
  exact State.eq_of_blocks (capture := by simp [State.oweWalk]) (log := same_log) (events := same_events)

end

theorem exec_checkpointBoundary {s : State} {reserved : Num} {closing : Mark}
    (engine : s.log.engine = .checkpointing) (reserves : s.log.reservedEpoch = some reserved)
    (epoch : s.log.currentEpoch = closing.epoch) (room : headerWrites s.stream < 8)
    (returned : ∀ e ∈ s.window, e.epoch = closing.epoch → ∀ r ∈ e.runs, r.isReading = false) :
    exec .checkpointBoundary s = .next (s.boundary reserved) := by
  have quiet : s.closingReadOutstanding = false := by
    rw [State.closingReadOutstanding, epoch, List.any_eq_false]
    intro e mem
    by_cases closes : e.epoch = closing.epoch
    · simpa [closes] using returned e mem closes
    · simp [closes]
  have due : s.boundaryDue = some reserved := by
    rw [State.boundaryDue, engine, quiet, (headerRoom_iff _).2 room]
    exact reserves
  simp [exec, execCheckpointBoundary, due]

/-- Settles O37. The drop, if the list is full, is `compared`; the new mark and the restart of the uncommitted entries give
`u` (`boundary_eq`); the deferred runs then only create records (`Created`), each as the return of its read would. -/
theorem boundaryMakesTheNewMark : Obligations.BoundaryMakesTheNewMark := by
  refine ⟨?_, fun v id e run poison data boundary found deferred =>
    exec_captureReadResponse_deferred boundary found deferred _ rfl⟩
  intro s reserved older closing engine reserves marks few room returned closed full kept opened dropped compared log
  have reported : s.log.engine ≠ .scanning := by rw [engine]; exact nofun
  have epoch : s.log.currentEpoch = closing.epoch := by
    rw [LogController.currentEpoch_eq _ reported, marks, newestEpoch, List.getLast?_concat]
  have answer := exec_checkpointBoundary engine reserves epoch room returned
  have compared_log : compared.log = { s.log with
      marks := kept ++ [closed], tail := if full then oldestOffset (kept ++ [closed]) else s.log.tail
      lowSpace := compared.log.lowSpace } := by
    by_cases whole : full
    · have is : compared = dropped.compareLowSpace := if_pos whole
      rw [is]
      exact dropped.compareLowSpace_log
    · have is : compared = dropped := if_neg whole
      rw [is]
  have drop : s.closeMark.dropForBoundary = { s with
      log := compared.log, events := compared.events
      capture := { s.capture with walkOwed := if full then true else s.capture.walkOwed } } := by
    by_cases whole : full
    · rw [if_pos whole]
      refine State.closeMark_drop_full (closed := closed) marks whole reported rfl ?_
      simp only [compared, dropped, kept, if_pos whole]
    · rw [if_neg whole, State.closeMark_drop_few (closed := closed) marks (by omega) rfl]
      simp only [compared, dropped, kept, if_neg whole]
  have opens : opened = compared.log.newMark reserved := by rw [compared_log]; rfl
  have compared_marks : compared.log.marks = kept ++ [closed] := by rw [compared_log]
  obtain ⟨u, bounded, state, slots⟩ := State.boundary_eq (log := log) (reserved := reserved) epoch drop compared_marks
    (by simp only [log, opens])
  have created := Created.foldl u.deferredRuns u
  have generation : log.generation = s.log.generation := by simp only [log]; rw [compared_log]
  rw [generation] at state
  have log_eq : log = { s.log with
      marks := kept ++ [closed, opened], tail := oldestOffset (kept ++ [closed, opened]), reservedEpoch := none
      timer := { ticks := 0, counter := 0, fired := false, due := none }, lowSpace := compared.log.lowSpace } := by
    simp only [log]; rw [compared_log]
  have log_t : u.createAllDeferred.log = { s.log with
      marks := kept ++ [closed, opened], tail := oldestOffset (kept ++ [closed, opened]), reservedEpoch := none
      generation := s.log.generation + 1, timer := { ticks := 0, counter := 0, fired := false, due := none }
      nextSeq := u.createAllDeferred.log.nextSeq, writePos := u.createAllDeferred.log.writePos
      lastLength := u.createAllDeferred.log.lastLength, reserved := u.createAllDeferred.log.reserved
      lowSpace := u.createAllDeferred.log.lowSpace } := by
    have log_u := congrArg State.log state
    simp only [log_eq] at log_u
    exact created.log.trans (congrArg (fun x : LogController => { x with
      nextSeq := u.createAllDeferred.log.nextSeq, writePos := u.createAllDeferred.log.writePos
      lastLength := u.createAllDeferred.log.lastLength, reserved := u.createAllDeferred.log.reserved
      lowSpace := u.createAllDeferred.log.lowSpace }) log_u)
  have window_u := congrArg State.window state
  have epochs : u.createAllDeferred.window.map Entry.epoch =
      s.window.map fun e => if e.epoch = closing.epoch ∧ e.committed = false then reserved else e.epoch := by
    rw [State.createAllDeferred, created.epochs, window_u, List.map_map]
    refine List.map_congr_left fun e _ => ?_
    rw [Function.comp_apply]
    split <;> [split; skip] <;> rfl
  refine ⟨u, u.createAllDeferred, by rw [answer, bounded], state, slots, rfl, ?_, log_t, fun none => ?_, ?_, created.stream,
    ?_, fun k e e' here there => ?_⟩
  · exact created.state.trans (congrArg (fun x : State => { x with
      log := u.createAllDeferred.log, events := u.createAllDeferred.events, window := u.createAllDeferred.window
      staging := u.createAllDeferred.staging, stream := u.createAllDeferred.stream
      capture := { x.capture with
        set := u.createAllDeferred.capture.set, walkOwed := u.createAllDeferred.capture.walkOwed } }) state)
  · refine State.createAllDeferred_none fun x mem => ?_
    rw [window_u] at mem
    obtain ⟨e, inside, rfl⟩ := List.mem_map.1 mem
    split
    · split
      · exact abandonRuns_isDeferred
      · exact none e inside
    · exact none e inside
  · rw [LogController.currentEpoch_eq _ (by rw [log_t]; exact reported), log_t, newestEpoch]
    simp [opened]
  · simpa using congrArg List.length epochs
  · have pointwise := congrArg (·[k]?) epochs
    simpa [here, there] using pointwise

end Sys2Proof.Machine
end

/-! # Refusals and the ports' bookkeeping -/

section
-- One proof after another: the threads of many at once outgrow the check's memory limit.
set_option Elab.async false
namespace Sys2Proof.Machine

/-- One REFUSED event is posted for each entry, in order, and nothing else changes (R98). -/
theorem State.postRefusals_events (s : State) (reason : RefusalReason) (entries : List Entry) :
    (s.postRefusals reason entries).events = refusalEvents s.log.currentEpoch reason entries s.events := by
  unfold State.postRefusals refusalEvents
  induction entries generalizing s with
  | nil => rfl
  | cons e rest ih => exact ih (s.postRefused reason e)

/-- What a refusal of entries changes (R70, R98). -/
theorem State.refuseEntries_eq (s : State) (p : Entry → Bool) (reason : RefusalReason) :
    s.refuseEntries p reason = { s with
      window := (s.window.map fun e => if p e then e.abandon else e).map fun e => if p e then e.finish .refused [] else e
      log := { s.log with reserved := s.log.reserved - reservations (s.window.filter p) }
      staging := s.staging.freeRuns ((s.window.filter p).flatMap Entry.freedRuns)
      capture := { s.capture with walkOwed := s.capture.walkOwed || (reservations (s.window.filter p) != 0) }
      events := refusalEvents s.log.currentEpoch reason (s.window.filter p) s.events } := by
  rw [State.refuseEntries, State.postRefusals_eq, State.postRefusals_events, State.abandonCaptures_eq]
  rfl

theorem State.offerResponse_eq (s : State) :
    s.offerResponse = { s with host := { s.host with
      offered := s.host.offered.or ((deliveryOrder s.host.lastServed).find? s.deliverable) } } := by
  unfold State.offerResponse
  split
  · next r offered => exact State.eq_of_blocks (host := by rw [offered, Option.some_or, ← offered])
  · next offered => rw [offered]; rfl

theorem State.checkHostOffer_eq (s : State) :
    s.checkHostOffer = { s with
      port := { s.port with bypass := if s.window.any Entry.isReady then s.port.bypass else 0 } } := by
  unfold State.checkHostOffer
  split <;> rfl

/-- What follows at the ports changes the host bypass count and the offered response alone (R100, R154). -/
theorem State.refreshPorts_eq (s : State) :
    s.refreshPorts = { s with
      port := { s.port with bypass := if s.window.any Entry.isReady then s.port.bypass else 0 }
      host := { s.host with
        offered := s.host.offered.or ((deliveryOrder s.host.lastServed).find? s.deliverable) } } := by
  rw [State.refreshPorts, State.checkHostOffer_eq, State.offerResponse_eq]
  rfl

/-- Neither RST nor the link has a part in the acceptance of a rollback. -/
theorem State.acceptRollback_withLink (s : State) (target : Mark) (rstLow : Bool) (link : Link) :
    State.acceptRollback { s with rstLow := rstLow, link := link } target =
      { s.acceptRollback target with rstLow := rstLow, link := link } := by
  rw [State.acceptRollback, State.acceptRollback, State.refreshPorts_eq, State.refreshPorts_eq, State.refuseEntries_eq,
    State.refuseEntries_eq]
  rfl

theorem State.acceptRollback_log (s : State) (target : Mark) :
    (s.acceptRollback target).log = { s.log with
      engine := .quiescing, reserved := (s.acceptRollback target).log.reserved } := by
  rw [State.acceptRollback, State.refreshPorts_eq, State.refuseEntries_eq]
  rfl

end Sys2Proof.Machine
end

/-! # Header writes placed and persisted (O43) -/

section
-- One proof after another: the threads of many at once outgrow the check's memory limit.
set_option Elab.async false
namespace Sys2Proof.Machine

/-! ## The return to ARMED (R33, R207) -/

section
variable {s : State}

theorem State.acceptFaultRollback_none (unmarked : s.log.marks.getLast? = none) : s.acceptFaultRollback = s := by
  rw [State.acceptFaultRollback, unmarked]

theorem State.acceptFaultRollback_some {target : Mark} (newest : s.log.marks.getLast? = some target) :
    s.acceptFaultRollback = s.acceptRollback target := by
  rw [State.acceptFaultRollback, newest]

/-- ROLLBACK 0 targets the newest mark; without one it is refused (R103). -/
theorem exec_rollback_zero (rst : s.rstLow = false) (armed : s.log.engine = .armed) : ∃ link : Link,
    exec (.rollback 0) s = .next { s.acceptFaultRollback with rstLow := s.rstLow, link := link } := by
  have newest : markAtDepth s.log.marks (BitVec.toNat (0 : Byte)) = s.log.marks.getLast? := by
    rw [markAtDepth, List.getLast?_eq_head?_reverse, List.head?_eq_getElem?]
    rfl
  cases last : s.log.marks.getLast? with
  | none =>
    rw [last] at newest
    refine ⟨{ receiver := idleReceiver, response := { status := .refused .range, results := [] } }, ?_⟩
    rw [State.acceptFaultRollback_none last]
    conv_lhs => simp only [exec, execRollback, State.onFrame, rst, armed, newest, if_true, if_false, Bool.false_eq_true]
    rfl
  | some target =>
    rw [last] at newest
    refine ⟨{ receiver := idleReceiver, response := { status := .started, results := [] } }, ?_⟩
    rw [State.acceptFaultRollback_some last, ← State.acceptRollback_withLink]
    conv_lhs => simp only [exec, execRollback, State.onFrame, rst, armed, newest, if_true, if_false, Bool.false_eq_true]
    rfl

theorem State.acceptFaultRollback_withLink (rstLow : Bool) (link : Link) :
    State.acceptFaultRollback { s with rstLow := rstLow, link := link } =
      { s.acceptFaultRollback with rstLow := rstLow, link := link } := by
  cases last : s.log.marks.getLast? with
  | none =>
    rw [State.acceptFaultRollback_none last]
    exact State.acceptFaultRollback_none last
  | some target =>
    rw [State.acceptFaultRollback_some last, ← State.acceptRollback_withLink]
    exact State.acceptFaultRollback_some last

theorem State.acceptFaultRollback_checkpointLatch : s.acceptFaultRollback.log.checkpointLatch = s.log.checkpointLatch := by
  cases last : s.log.marks.getLast? with
  | none => rw [State.acceptFaultRollback_none last]
  | some target => rw [State.acceptFaultRollback_some last, State.acceptRollback_log]

theorem State.acceptFaultRollback_epoch (armed : s.log.engine = .armed) :
    s.acceptFaultRollback.log.currentEpoch = s.log.currentEpoch := by
  cases last : s.log.marks.getLast? with
  | none => rw [State.acceptFaultRollback_none last]
  | some target =>
    rw [State.acceptFaultRollback_some last, LogController.currentEpoch_eq s.log (by rw [armed]; exact nofun),
      State.acceptRollback_log]
    exact LogController.currentEpoch_eq _ nofun

end

/-- A set pending-checkpoint latch is dropped with CKPT_IGNORED (R25, R33). -/
theorem State.dropCheckpointLatch_eq (s : State) :
    s.dropCheckpointLatch = { s with
      log := { s.log with checkpointLatch := false }
      events :=
        if s.log.checkpointLatch then s.events.post
          { kind := .checkpointIgnored, epoch := s.log.currentEpoch, address := none, requester := none,
            detail := .source .latch }
        else s.events } := by
  cases latch : s.log.checkpointLatch
  · rw [State.dropCheckpointLatch, latch]
    have kept : ({ s.log with checkpointLatch := false } : LogController) = s.log := by rw [← latch]
    rw [kept]
    rfl
  · rw [State.dropCheckpointLatch, latch]
    rfl

theorem State.finishArmed_returns {u : State} (armed : u.log.engine = .armed) : ReturnsToArmed u u.finishArmed := by
  refine ⟨fun fault latch => ?_, fun fault latch => ?_, fun fault => ?_⟩
  · rw [State.finishArmed, State.actOnLatches, fault, latch]
    exact walks_walk u
  · rw [State.finishArmed, State.actOnLatches, fault, latch]
    exact walks_walk _
  · obtain ⟨link, taken⟩ := exec_rollback_zero
      (s := { u with rstLow := false, log := { u.log with faultLatch := false } }) rfl armed
    refine ⟨_, taken, ?_⟩
    rw [State.finishArmed, State.actOnLatches, fault, if_pos rfl, State.dropCheckpointLatch_eq, walks_iff]
    have changed : u.setFaultLatch false = { { u with rstLow := false, log := { u.log with faultLatch := false } } with
        rstLow := u.rstLow, link := u.link } := rfl
    obtain ⟨w, w_eq⟩ : ∃ w : State, w = { u with
        rstLow := false, log := { u.log with faultLatch := false } } := ⟨_, rfl⟩
    have armed_w : w.log.engine = .armed := by rw [w_eq]; exact armed
    have latch : w.acceptFaultRollback.log.checkpointLatch = u.log.checkpointLatch := by
      rw [State.acceptFaultRollback_checkpointLatch, w_eq]
    have epoch : w.acceptFaultRollback.log.currentEpoch = u.log.currentEpoch := by
      rw [State.acceptFaultRollback_epoch armed_w, w_eq]; rfl
    rw [changed, ← w_eq, State.acceptFaultRollback_withLink, ← latch, ← epoch]

/-! ## A header write persists (R19) -/

theorem exec_headerWriteResponse_okay {s : State} {o : Outstanding} {rest : List Outstanding} {generation : Num}
    {purpose : HeaderPurpose} {copy : HeaderCopy} {item : StreamItem} (outstanding : s.port.outstanding = o :: rest)
    (orphan : o.orphan = false) (owner : o.owner = .header generation)
    (issued : issuedHeader s.stream generation = some item) (body : item.body = .header purpose copy) :
    exec (.headerWriteResponse .okay) s = .next (s.freeSlot.persistHeader generation purpose) := by
  obtain ⟨claimant, owner', request, orphan'⟩ := o
  cases owner
  simp [exec, execHeaderWriteResponse, State.oldestRequest_eq outstanding orphan, issued, body]

/-- The oldest item's header write leaves the stream and finishes what asked for it. -/
theorem exec_headerWriteResponse_finishes {s : State} {o : Outstanding} {rest : List Outstanding}
    {purpose : HeaderPurpose} {copy : HeaderCopy} {behind : List StreamItem} (outstanding : s.port.outstanding = o :: rest)
    (orphan : o.orphan = false) (owner : o.owner = .header copy.generation)
    (stream : s.stream = { body := .header purpose copy, issued := true } :: behind)
    (others : ∀ i ∈ behind, i.isHeaderWrite copy.generation = false) :
    exec (.headerWriteResponse .okay) s = .next (State.finishHeader
      { s with port := { s.port with outstanding := rest }, stream := behind } purpose) := by
  have own : StreamItem.isHeaderWrite { body := .header purpose copy, issued := true } copy.generation = true :=
    beq_self_eq_true _
  have issued : issuedHeader s.stream copy.generation = some { body := .header purpose copy, issued := true } := by
    rw [issuedHeader, stream, List.find?_cons_of_pos (by simp [own])]
  have kept : s.stream.filter (fun i => !i.isHeaderWrite copy.generation) = behind := by
    rw [stream, List.filter_cons_of_neg (by simp [own]), List.filter_eq_self]
    exact fun i mem => by simp [others i mem]
  rw [exec_headerWriteResponse_okay outstanding orphan owner issued rfl, State.freeSlot_eq outstanding,
    State.persistHeader, ← kept]
  rfl

theorem exec_headerWritePlacement_room {s : State} {purpose : HeaderPurpose} (waits : s.log.waitingHeader = some purpose)
    (room : headerWrites s.stream < 8) :
    exec .headerWritePlacement s =
      .next ((s.modLog fun l => { l with waitingHeader := none }).placeHeader purpose) := by
  simp [exec, execHeaderWritePlacement, waits, (headerRoom_iff _).2 room]

/-- A stalled run makes a walk in ARMED under RECYCLE (R206). -/
theorem State.walkStalled_eq (s : State) :
    s.walkStalled = if s.log.engine = .armed ∧ s.log.policy.logFull = .recycle ∧
      ∃ e ∈ s.window, ∃ r ∈ e.runs, r.condition = .stalled then s.walk else s := by
  unfold State.walkStalled
  refine if_congr ?_ rfl rfl
  simp [Run.isStalled, and_assoc]

/-- Settles O43: the write leaves the stream, and what it finishes is a return to ARMED of the state with the operation's
event posted (`State.finishArmed_returns`), or the walk of the stalled runs. -/
theorem headerWritesArePlacedAndFinish : Obligations.HeaderWritesArePlacedAndFinish := by
  refine ⟨fun s => ⟨fun none => ?_, fun full => ?_, fun purpose waits room => ?_⟩, ?_⟩
  · simp [exec, execHeaderWritePlacement, none]
  · have closed : headerRoom s.stream = false := by
      rw [← Bool.not_eq_true, headerRoom_iff]; exact Nat.not_lt.2 full
    cases waits : s.log.waitingHeader <;> simp [exec, execHeaderWritePlacement, waits, closed]
  · rw [exec_headerWritePlacement_room waits room]
    rfl
  · intro s o rest purpose copy behind outstanding orphan owner stream others taken ended returns stalls
    have answer := exec_headerWriteResponse_finishes outstanding orphan owner stream others
    have finishes (u : State) (armed : u.log.engine = .armed) (finish : taken.finishHeader purpose = u.finishArmed) :
        returns u := ⟨_, answer.trans (congrArg _ finish), State.finishArmed_returns armed⟩
    refine ⟨?_, ?_, ?_, ?_, ?_, ?_⟩
    · rintro rfl
      exact finishes _ rfl rfl
    · rintro rfl
      exact finishes _ rfl rfl
    · rintro rfl oldest first
      have epoch : oldestEpoch s.log.marks = oldest.epoch := by
        cases marks : s.log.marks with
        | nil => rw [marks] at first; cases first
        | cons m more => rw [marks] at first; cases first; rfl
      refine finishes _ rfl ?_
      rw [← epoch]
      rfl
    · rintro rfl cursor rollback
      have applied : taken.appliedCount = cursor.applied := by
        have here : taken.rollback = some cursor := rollback
        simp only [State.appliedCount, here]
      refine finishes _ rfl ?_
      rw [← applied]
      rfl
    · rintro rfl stalled
      refine ⟨_, answer, (walks_iff _ _).2 ?_⟩
      exact (State.walkStalled_eq taken).trans (if_pos stalled)
    · rintro rfl calm
      rw [answer]
      exact congrArg _ ((State.walkStalled_eq taken).trans (if_neg calm))

end Sys2Proof.Machine
end

/-! # Entry into LOG_FAULT (O45) -/

section
-- One proof after another: the threads of many at once outgrow the check's memory limit.
set_option Elab.async false
namespace Sys2Proof.Machine

/-! ## What is discarded (R22, R23) -/

section
variable {before behind : List StreamItem} {item : StreamItem} {failed : StreamItem → Bool}

theorem discardedItems_append (earlier : ∀ i ∈ before, failed i = false) (here : failed item = true) :
    discardedItems (before ++ item :: behind) failed = item :: behind := by
  rw [discardedItems, List.dropWhile_append_of_pos (by simpa using earlier), List.dropWhile_cons_of_neg (by simp [here])]

theorem keptItems_append (earlier : ∀ i ∈ before, failed i = false) (here : failed item = true) :
    (before ++ item :: behind).takeWhile (fun i => !failed i) = before := by
  rw [List.takeWhile_append_of_pos (by simpa using earlier), List.takeWhile_cons_of_neg (by simp [here]), List.append_nil]

end

theorem Staging.freeRecords_subset (b : Staging) (records : List Record) :
    (∀ slot, slot ∈ (b.freeRecords records).runSlots → slot ∈ b.runSlots) ∧
      ∀ seq, (b.freeRecords records).filler = some seq → b.filler = some seq := by
  induction records generalizing b with
  | nil => exact ⟨fun _ => id, fun _ => id⟩
  | cons r rest ih =>
    obtain ⟨slots, filler⟩ := ih (b.freeRecord r.header.seq)
    refine ⟨fun slot mem => List.mem_of_mem_filter (slots slot mem), fun seq here => ?_⟩
    have before := filler seq here
    rw [Staging.freeRecord] at before
    dsimp only at before
    split at before
    · cases before
    · exact before

/-- The slots of discarded records are freed (R22). -/
theorem Staging.freeRecords_freed (b : Staging) (records : List Record) :
    ∀ r ∈ records, .record r.header.seq ∉ (b.freeRecords records).runSlots ∧
      (b.freeRecords records).filler ≠ some r.header.seq := by
  induction records generalizing b with
  | nil => simp
  | cons r rest ih =>
    intro x mem
    rcases List.mem_cons.1 mem with rfl | later
    · obtain ⟨slots, filler⟩ := (b.freeRecord x.header.seq).freeRecords_subset rest
      refine ⟨fun mem => ?_, fun here => ?_⟩
      · simpa using (List.mem_filter.1 (slots _ mem)).2
      · have before := filler _ here
        rw [Staging.freeRecord] at before
        dsimp only at before
        split at before
        · cases before
        · next other => exact other before
    · exact ih _ x later

theorem LogController.rewind_eq (l : LogController) (records : List Record) : ∃ writePos lastLength,
    l.rewind records = { l with writePos := writePos, lastLength := lastLength } := by
  cases records with
  | nil => exact ⟨_, _, rfl⟩
  | cons r _ => exact ⟨_, _, rfl⟩

/-- A set latched fault is dropped with FAULT_DROPPED (R25, R166). -/
theorem State.dropFaultLatch_eq (s : State) (prevented : EngineState) :
    s.dropFaultLatch prevented = { s with
      log := { s.log with faultLatch := false }
      events :=
        if s.log.faultLatch then s.events.post
          { kind := .faultDropped, epoch := s.log.currentEpoch, address := none, requester := none,
            detail := .prevented prevented }
        else s.events } := by
  cases latch : s.log.faultLatch
  · rw [State.dropFaultLatch, latch]
    have kept : ({ s.log with faultLatch := false } : LogController) = s.log := by rw [← latch]
    rw [kept]
    rfl
  · rw [State.dropFaultLatch, latch]
    rfl

theorem State.truncateStream_eq (s : State) (failed : StreamItem → Bool) :
    s.truncateStream failed = { s with
      stream := s.stream.takeWhile fun i => !failed i
      port := { s.port with outstanding := s.port.outstanding.map fun o => o.discardIf (discardedItems s.stream failed) }
      staging := s.staging.freeRecords (streamRecords (discardedItems s.stream failed))
      log := s.log.rewind (streamRecords (discardedItems s.stream failed)) } :=
  rfl

theorem LogController.itemAddress_engine (l : LogController) (item : StreamItem) (engine : EngineState)
    (reservedEpoch : Option Num) (waitingHeader : Option HeaderPurpose) :
    LogController.itemAddress
      { l with engine := engine, reservedEpoch := reservedEpoch, waitingHeader := waitingHeader } item =
      l.itemAddress item :=
  rfl

/-- The operation in flight ends and LOG_FAULT is posted (R25). -/
theorem State.endedInLogFault_eq (s : State) (item : StreamItem) :
    s.clearCaptureSet.endInLogFault.postLogFault item = { s with
      rollback := none, scan := none, maintOffer := none, capture := { s.capture with set := [] }
      log := { s.log with engine := .logFault, reservedEpoch := none, waitingHeader := none }
      events := s.events.post
        { kind := .logFault, epoch := newestEpoch s.log.marks, address := some (s.log.itemAddress item),
          requester := none, detail := item.faultDetail } } := by
  have ended : s.clearCaptureSet.endInLogFault = { s with
      rollback := none, scan := none, maintOffer := none, capture := { s.capture with set := [] }
      log := { s.log with engine := .logFault, reservedEpoch := none, waitingHeader := none } } := rfl
  have epoch : LogController.currentEpoch
      { s.log with engine := .logFault, reservedEpoch := none, waitingHeader := none } = newestEpoch s.log.marks :=
    LogController.currentEpoch_eq _ nofun
  rw [ended, State.postLogFault, State.post]
  simp only [epoch, LogController.itemAddress_engine]
  rfl

/-- Logged writes not past READY are refused, no reservation is left, and rollback holds are released (R24, R93). -/
theorem State.refusedInLogFault_eq {w : State} (p : Entry → Bool) (stopped : w.log.engine = .logFault)
    (respects : ∀ e : Entry, p e.abandon = p e) :
    ((w.refuseEntries p .logFault).modLog fun l => { l with reserved := 0 }).releaseHolds .rollback = { w with
      log := { w.log with reserved := 0 }
      capture := { w.capture with walkOwed := w.capture.walkOwed || (reservations (w.window.filter p) != 0) }
      staging := w.staging.freeRuns ((w.window.filter p).flatMap Entry.freedRuns)
      events := refusalEvents (newestEpoch w.log.marks) .logFault (w.window.filter p) w.events
      window := w.window.map fun e =>
        if p e then e.abandon.finish .refused [] else if e.heldFor .rollback then e.toPhase .ordered else e } := by
  have epoch : w.log.currentEpoch = newestEpoch w.log.marks :=
    LogController.currentEpoch_eq _ (by rw [stopped]; exact nofun)
  have window : ((w.window.map fun e => if p e then e.abandon else e).map fun e =>
      if p e then e.finish .refused [] else e).map (fun e => if e.heldFor .rollback then e.toPhase .ordered else e) =
      w.window.map fun e =>
        if p e then e.abandon.finish .refused [] else if e.heldFor .rollback then e.toPhase .ordered else e := by
    rw [List.map_map, List.map_map]
    refine List.map_congr_left fun e _ => ?_
    rw [Function.comp_apply, Function.comp_apply]
    by_cases refused : p e = true
    · have refused' : p e.abandon = true := (respects e).trans refused
      rw [if_pos refused, if_pos refused', if_pos refused]
      rfl
    · rw [if_neg refused, if_neg refused, if_neg refused]
  rw [State.refuseEntries_eq, epoch, ← window]
  rfl

/-- The low-space comparison, the latches dropped and the walk signal, `compared` sharing the comparison's Log Controller and
events (R25). -/
theorem State.latchesDropped_eq {x compared : State} {epoch : Num} {checkpoint fault : Bool}
    (log : x.compareLowSpace.log = compared.log)
    (events : x.compareLowSpace.events = compared.events) (at_epoch : compared.log.currentEpoch = epoch)
    (latch : compared.log.checkpointLatch = checkpoint) (latched : compared.log.faultLatch = fault) :
    x.compareLowSpace.dropLatches.oweWalk = { x with
      log := { compared.log with checkpointLatch := false, faultLatch := false }
      capture := { x.capture with walkOwed := true }
      events :=
        let ignored := if checkpoint then compared.events.post
            { kind := .checkpointIgnored, epoch := epoch, address := none, requester := none, detail := .source .latch }
          else compared.events
        if fault then ignored.post
          { kind := .faultDropped, epoch := epoch, address := none, requester := none, detail := .prevented .logFault }
        else ignored } := by
  subst at_epoch latch latched
  have compares : x.compareLowSpace = { x with log := compared.log, events := compared.events } :=
    State.eq_of_blocks (log := log) (events := events)
  rw [compares, State.dropLatches, State.dropCheckpointLatch_eq, State.dropFaultLatch_eq]
  rfl

/-- The state in LOG_FAULT before the latches are dropped and the ports follow. -/
theorem State.enterLogFault_eq {v compared : State} {item : StreamItem} {failed : StreamItem → Bool}
    {before discarded : List StreamItem} (kept : v.stream.takeWhile (fun i => !failed i) = before)
    (dropped : discardedItems v.stream failed = discarded)
    {faulted : State} (faults : faulted = { v with
      log := { v.log.rewind (streamRecords discarded) with
        engine := .logFault, reserved := 0, reservedEpoch := none, waitingHeader := none }
      events := refusalEvents (newestEpoch v.log.marks) .logFault (v.window.filter (Entry.refusedByLogFault v.log.engine))
        (v.events.post
          { kind := .logFault, epoch := newestEpoch v.log.marks, address := some (v.log.itemAddress item),
            requester := none, detail := item.faultDetail }) })
    (log : compared.log = faulted.compareLowSpace.log) (events : compared.events = faulted.compareLowSpace.events) :
    v.enterLogFault item failed = State.refreshPorts { v with
      stream := before, rollback := none, scan := none, maintOffer := none
      capture := { v.capture with set := [], walkOwed := true }
      port := { v.port with outstanding := v.port.outstanding.map fun o => o.discardIf discarded }
      log := { compared.log with checkpointLatch := false, faultLatch := false }
      staging := (v.staging.freeRecords (streamRecords discarded)).freeRuns
        ((v.window.filter (Entry.refusedByLogFault v.log.engine)).flatMap Entry.freedRuns)
      window := v.window.map fun e =>
        if e.refusedByLogFault v.log.engine then e.abandon.finish .refused []
        else if e.heldFor .rollback then e.toPhase .ordered else e
      events :=
        let ignored := if v.log.checkpointLatch then compared.events.post
            { kind := .checkpointIgnored, epoch := newestEpoch v.log.marks, address := none, requester := none,
              detail := .source .latch }
          else compared.events
        if v.log.faultLatch then ignored.post
          { kind := .faultDropped, epoch := newestEpoch v.log.marks, address := none, requester := none,
            detail := .prevented .logFault }
        else ignored } := by
  obtain ⟨writePos, lastLength, rewound⟩ := v.log.rewind_eq (streamRecords discarded)
  rw [rewound] at faults
  have address : LogController.itemAddress { v.log with writePos := writePos, lastLength := lastLength } item =
      v.log.itemAddress item := rfl
  have ended := State.endedInLogFault_eq (v.truncateStream failed) item
  rw [State.truncateStream_eq, kept, dropped, rewound] at ended
  simp only [address] at ended
  have closes := State.refusedInLogFault_eq (w := { v with
      stream := before, rollback := none, scan := none, maintOffer := none
      capture := { v.capture with set := [] }
      port := { v.port with outstanding := v.port.outstanding.map fun o => o.discardIf discarded }
      log := { v.log with
        writePos := writePos, lastLength := lastLength, engine := .logFault, reservedEpoch := none, waitingHeader := none }
      staging := v.staging.freeRecords (streamRecords discarded)
      events := v.events.post
        { kind := .logFault, epoch := newestEpoch v.log.marks, address := some (v.log.itemAddress item),
          requester := none, detail := item.faultDetail } }) (Entry.refusedByLogFault v.log.engine) rfl fun _ => rfl
  have latch : compared.log.checkpointLatch = v.log.checkpointLatch := by
    rw [log, faults]; exact State.compareLowSpace_log_field LogController.checkpointLatch _ fun _ _ => rfl
  have fault : compared.log.faultLatch = v.log.faultLatch := by
    rw [log, faults]; exact State.compareLowSpace_log_field LogController.faultLatch _ fun _ _ => rfl
  have marks : compared.log.marks = v.log.marks := by rw [log, faults]; exact State.compareLowSpace_marks _
  have engine : compared.log.engine = .logFault := by
    rw [log, faults]; exact State.compareLowSpace_log_field LogController.engine _ fun _ _ => rfl
  have epoch : compared.log.currentEpoch = newestEpoch v.log.marks := by
    rw [LogController.currentEpoch_eq _ (by rw [engine]; exact nofun), marks]
  rw [State.enterLogFault, State.truncateStream_eq, kept, dropped, rewound, ended]
  refine congrArg State.refreshPorts ((State.latchesDropped_eq (compared := compared) ?_ ?_ epoch latch fault).trans ?_)
  · rw [closes, log, faults]; refine (State.compareLowSpace_congr ?_ ?_).1 <;> rfl
  · rw [closes, events, faults]; refine (State.compareLowSpace_congr ?_ ?_).2 <;> rfl
  · rw [closes]

/-- An ERROR on an issued item's write enters LOG_FAULT at that item. -/
theorem exec_streamWriteError {s : State} {o : Outstanding} {rest : List Outstanding} {item : StreamItem}
    {before behind : List StreamItem} {command : Instr} (outstanding : s.port.outstanding = o :: rest)
    (orphan : o.orphan = false) (stream : s.stream = before ++ item :: behind) (issued : item.issued = true)
    (write : (∃ r, item.body = .record r ∧ o.owner = .record r.header.seq ∧ command = .recordWriteResponse .error ∧
        ∀ i ∈ before, i.isRecord r.header.seq = false) ∨
      (∃ purpose copy, item.body = .header purpose copy ∧ o.owner = .header copy.generation ∧
        command = .headerWriteResponse .error ∧ ∀ i ∈ before, i.isHeaderWrite copy.generation = false)) :
    ∃ failed : StreamItem → Bool, (∀ i ∈ before, failed i = false) ∧ failed item = true ∧
      exec command s = .next (s.freeSlot.enterLogFault item failed) := by
  obtain ⟨claimant, owner', request, orphan'⟩ := o
  have oldest := State.oldestRequest_eq outstanding orphan
  rcases write with ⟨r, body, owner, rfl, earlier⟩ | ⟨purpose, copy, body, owner, rfl, earlier⟩
  · cases owner
    have here : item.isRecord r.header.seq = true := by simp [StreamItem.isRecord, body]
    have first : issuedRecord s.stream r.header.seq = some item := by
      rw [issuedRecord, stream, find?_behind _ _ _ _ (fun i mem => by simp [earlier i mem]) (by simp [issued, here])]
    exact ⟨_, earlier, here, by simp [exec, execRecordWriteResponse, oldest, first]⟩
  · cases owner
    have here : item.isHeaderWrite copy.generation = true := by simp [StreamItem.isHeaderWrite, body]
    have first : issuedHeader s.stream copy.generation = some item := by
      rw [issuedHeader, stream, find?_behind _ _ _ _ (fun i mem => by simp [earlier i mem]) (by simp [issued, here])]
    exact ⟨_, earlier, here, by simp [exec, execHeaderWriteResponse, oldest, first]⟩

theorem Entry.refusedByLogFault_iff (e : Entry) (engine : EngineState) :
    e.refusedByLogFault engine = true ↔ e.isLoggedWrite = true ∧ e.phase ≠ .issued ∧ e.isDone = false ∧
      (e.phase ≠ .ready ∨ engine = .scanning ∨ engine = .detaching) := by
  by_cases ready : e.phase = .ready
  · simp [Entry.refusedByLogFault, Entry.isReady, Entry.isDone, ready]
  · simp [Entry.refusedByLogFault, Entry.isReady, ready]

/-- Settles O45. The failed item is the first that its response's test finds, so the stream splits there; `enterLogFault_eq`
gives the state, in which the entry of each place has become what the three clauses say. -/
theorem streamWriteErrorEntersLogFault : Obligations.StreamWriteErrorEntersLogFault := by
  intro s o rest item before behind command outstanding orphan stream issued write discarded refused epoch latch compared
    ignored
  obtain ⟨failed, earlier, here, answer⟩ := exec_streamWriteError outstanding orphan stream issued write
  have refused_iff (e : Entry) : e.refusedByLogFault s.log.engine = true ↔ refused e := e.refusedByLogFault_iff _
  have filtered : s.window.filter (Entry.refusedByLogFault s.log.engine) = s.window.filter fun e => decide (refused e) :=
    List.filter_congr fun e _ => by rw [Bool.eq_iff_iff, refused_iff, decide_eq_true_iff]
  have kept : s.stream.takeWhile (fun i => !failed i) = before := by rw [stream, keptItems_append earlier here]
  have dropped : discardedItems s.stream failed = discarded := by rw [stream, discardedItems_append earlier here]
  rw [State.freeSlot_eq outstanding] at answer
  have entered := State.enterLogFault_eq (v := { s with port := { s.port with outstanding := rest } })
    (compared := compared) (item := item) kept dropped rfl
    (by
      refine (State.compareLowSpace_congr ?_ ?_).1
      · cases streamRecords discarded <;> rfl
      · rw [← filtered]; rfl)
    (by
      refine (State.compareLowSpace_congr ?_ ?_).2
      · cases streamRecords discarded <;> rfl
      · rw [← filtered]; rfl)
  rw [State.refreshPorts_eq] at entered
  refine ⟨_, answer.trans (congrArg _ entered), rfl, fun slot mem => ?_, fun r mem => ?_, ?_, fun k e e' at_s at_t => ?_⟩
  · exact (Staging.freeRecords_subset _ _).1 slot (List.mem_of_mem_filter mem)
  · obtain ⟨slot, filler⟩ := s.staging.freeRecords_freed (streamRecords discarded) r mem
    exact ⟨fun here => slot (List.mem_of_mem_filter here), filler⟩
  · exact List.length_map _
  · have changed : e' = if e.refusedByLogFault s.log.engine then e.abandon.finish .refused []
        else if e.heldFor .rollback then e.toPhase .ordered else e := by
      have mapped := (List.getElem?_map (i := k)).symm.trans at_t
      rw [at_s] at mapped
      exact (Option.some.inj mapped).symm
    refine ⟨fun yes => ?_, fun no held => ?_, fun no free => ?_⟩
    · rw [changed, if_pos ((refused_iff e).2 yes)]
      rfl
    · rw [changed, if_neg fun yes => no ((refused_iff e).1 yes), if_pos held]
      rfl
    · rw [changed, if_neg fun yes => no ((refused_iff e).1 yes), if_neg (by simp [free])]

end Sys2Proof.Machine
end

/-! # The laws at reset and the posting of events (O4, O17) -/

section
-- One proof after another: the threads of many at once outgrow the check's memory limit.
set_option Elab.async false
namespace Sys2Proof.Machine

/-- Settles O4: every list is empty at reset, so each capacity holds, and the policies have the values of R195. -/
theorem lawsHoldAtReset : Obligations.LawsHoldAtReset := by
  have window : WindowLaw State.reset := ⟨Nat.zero_le 8, List.nodup_nil⟩
  have port : PortLaw State.reset := ⟨Nat.zero_le 4, Nat.zero_le 4⟩
  have capture : CaptureSetLaw State.reset := ⟨Nat.zero_le 64, List.nodup_nil⟩
  have marks : MarkLaw State.reset := ⟨Nat.zero_le 8, rfl, nofun⟩
  have stream : StreamLaw State.reset := ⟨Nat.zero_le 8, Nat.zero_le 7⟩
  have timer : TimerLaw State.reset := by
    have policy : State.reset.log.policy = resetPolicy := rfl
    rw [TimerLaw, policy]
    decide
  exact ⟨window, port, Nat.zero_le 8, capture, marks, stream, timer⟩

/-- The codes of R204 number the kinds in the order of their declaration, from 1. -/
theorem kindNumber_eq_ctorIdx (kind : EventKind) : kindNumber kind = kind.ctorIdx + 1 := by
  cases kind <;> rfl

theorem kindNumber_bounds (kind : EventKind) : 1 ≤ kindNumber kind ∧ kindNumber kind ≤ 23 := by
  cases kind <;> decide

/-- No two kinds share a code (R204). -/
theorem kindNumber_injective : Function.Injective kindNumber := by
  intro a b same
  rw [kindNumber_eq_ctorIdx, kindNumber_eq_ctorIdx, Nat.add_right_cancel_iff] at same
  rw [← EventKind.ofNat_ctorIdx a, same, EventKind.ofNat_ctorIdx]

/-- A kind's summary bit is set at its own number and at no other's (R203). -/
theorem summaryBit_getLsbD (kind other : EventKind) :
    (summaryBit kind).getLsbD (kindNumber other - 1) = decide (other = kind) := by
  have ⟨least, most⟩ := kindNumber_bounds other
  have ⟨least', _⟩ := kindNumber_bounds kind
  have inside : kindNumber other - 1 < 24 := by omega
  have same : kindNumber kind - 1 = kindNumber other - 1 ↔ other = kind := by
    rw [← kindNumber_injective.eq_iff]
    omega
  rw [summaryBit, BitVec.getLsbD_ofNat, Nat.testBit_two_pow, decide_eq_true inside, Bool.true_and, decide_eq_decide]
  exact same

/-- A kind is in the summary after a posting if it was before, or is the kind posted (R170). -/
theorem EventQueue.post_summary (q : EventQueue) (e : Event) (other : EventKind) :
    (q.post e).summary.getLsbD (kindNumber other - 1) =
      (q.summary.getLsbD (kindNumber other - 1) || decide (other = e.kind)) := by
  rw [← summaryBit_getLsbD, ← BitVec.getLsbD_or]
  rfl

/-- With room the entry is appended as newest (R170). -/
theorem EventQueue.post_room (q : EventQueue) (e : Event) (room : q.queue.length < 8) :
    (q.post e).queue = q.queue ++ [e] ∧ (q.post e).lost = q.lost := by
  have room : q.queue.length < Config.eventCapacity := room
  simp [EventQueue.post, room]

/-- Without room the entry is lost (R170). -/
theorem EventQueue.post_full (q : EventQueue) (e : Event) (full : 8 ≤ q.queue.length) :
    (q.post e).queue = q.queue ∧ (q.post e).lost = true := by
  have full : ¬q.queue.length < Config.eventCapacity := Nat.not_lt.2 full
  simp [EventQueue.post, full]

/-- Settles O17: a posting by the state is one at its Event Queue, which has its three cases. -/
theorem postingFollowsTheQueueRule : Obligations.PostingFollowsTheQueueRule :=
  fun s _ _ _ _ => ⟨rfl, s.events.post_room _, s.events.post_full _, s.events.post_summary _⟩

end Sys2Proof.Machine
end

/-! # What every step keeps of the policies and the tick count (O9)

One relation for both: outside SET_POLICY, TICK and the resets the policies stay, and the tick count stays or returns to
0. One lemma per operation says that an operation made in `t` keeps what `t` has kept of `s`; the lemma of a composed
operation is the chain of its parts. -/

section
-- One proof after another: the threads of many at once outgrow the check's memory limit.
set_option Elab.async false
namespace Sys2Proof.Machine

variable {s t u : State}

/-- The policies of `s` are those of `t`, and the tick count is the same or has returned to 0 (R50, R51). -/
def ClockKept (s t : State) : Prop :=
  t.log.policy = s.log.policy ∧ (t.log.timer.ticks = s.log.timer.ticks ∨ t.log.timer.ticks = 0)

/-- A tick count that stays or returns to 0 is below the prescaler that stays. -/
theorem ClockKept.timerLaw (h : ClockKept s t) (law : TimerLaw s) : TimerLaw t := by
  obtain ⟨policy, ticks⟩ := h
  obtain ⟨threshold, least, most, below⟩ := law
  rw [TimerLaw, policy]
  exact ⟨threshold, least, most, by omega⟩

theorem ClockKept.refl (s : State) : ClockKept s s := ⟨rfl, .inl rfl⟩

/-- A change that leaves the policies and the tick count. -/
theorem ClockKept.same (h : ClockKept s t) (policy : u.log.policy = t.log.policy)
    (ticks : u.log.timer.ticks = t.log.timer.ticks) : ClockKept s u :=
  ⟨policy.trans h.1, by rw [ticks]; exact h.2⟩

/-- A change that leaves the Log Controller. -/
theorem ClockKept.sameLog (h : ClockKept s t) (log : u.log = t.log) : ClockKept s u :=
  h.same (by rw [log]) (by rw [log])

/-! ## Replacing and changing one block -/

theorem ClockKept.withRst (h : ClockKept s t) (low : Bool) : ClockKept s (t.withRst low) := h
theorem ClockKept.withHost (h : ClockKept s t) (p : HostPort) : ClockKept s (t.withHost p) := h
theorem ClockKept.withWindow (h : ClockKept s t) (w : List Entry) : ClockKept s (t.withWindow w) := h
theorem ClockKept.withRegions (h : ClockKept s t) (r : Vector Region 16) : ClockKept s (t.withRegions r) := h
theorem ClockKept.withRollback (h : ClockKept s t) (c : Option RollbackCursor) : ClockKept s (t.withRollback c) := h
theorem ClockKept.withScan (h : ClockKept s t) (c : Option ScanCursor) : ClockKept s (t.withScan c) := h
theorem ClockKept.modStream (h : ClockKept s t) (f : List StreamItem → List StreamItem) :
    ClockKept s (t.modStream f) := h
theorem ClockKept.modStaging (h : ClockKept s t) (f : Staging → Staging) : ClockKept s (t.modStaging f) := h
theorem ClockKept.modEvents (h : ClockKept s t) (f : EventQueue → EventQueue) : ClockKept s (t.modEvents f) := h
theorem ClockKept.mapEntries (h : ClockKept s t) (p : Entry → Bool) (f : Entry → Entry) :
    ClockKept s (t.mapEntries p f) := h
theorem ClockKept.updateEntry (h : ClockKept s t) (r : Requester) (tag : Tag) (f : Entry → Entry) :
    ClockKept s (t.updateEntry r tag f) := h
theorem ClockKept.releaseHolds (h : ClockKept s t) (cause : HoldCause) : ClockKept s (t.releaseHolds cause) := h
theorem ClockKept.clearCaptureSet (h : ClockKept s t) : ClockKept s t.clearCaptureSet := h
theorem ClockKept.oweWalk (h : ClockKept s t) : ClockKept s t.oweWalk := h
theorem ClockKept.freeSlot (h : ClockKept s t) : ClockKept s t.freeSlot := h
theorem ClockKept.offerMaint (h : ClockKept s t) (step : MaintStep) (r : MemRequest) :
    ClockKept s (t.offerMaint step r) := h
theorem ClockKept.post (h : ClockKept s t) (k : EventKind) (a : Option Num) (r : Option Requester) (d : Detail) :
    ClockKept s (t.post k a r d) := h
theorem ClockKept.report (h : ClockKept s t) (k : EventKind) (d : Detail) : ClockKept s (t.report k d) := h
theorem ClockKept.respond (h : ClockKept s t) (status : Status) (results : List Byte) :
    ClockKept s (t.respond status results) := h
theorem ClockKept.refuse (h : ClockKept s t) (reason : CommandRefusal) : ClockKept s (t.refuse reason) := h

/-- A change of the Log Controller that leaves the policies and the tick count. -/
theorem ClockKept.modLog (h : ClockKept s t) (f : LogController → LogController)
    (policy : (f t.log).policy = t.log.policy) (ticks : (f t.log).timer.ticks = t.log.timer.ticks) : ClockKept s (t.modLog f) := h.same policy ticks

/-- A change of the Log Controller that restarts the epoch timer (R51). -/
theorem ClockKept.modLogRestart (h : ClockKept s t) (f : LogController → LogController)
    (policy : (f t.log).policy = t.log.policy) (timer : (f t.log).timer = stoppedTimer) : ClockKept s (t.modLog f) :=
  ⟨policy.trans h.1, .inr (congrArg EpochTimer.ticks timer)⟩

theorem ClockKept.setEngine (h : ClockKept s t) (x : EngineState) : ClockKept s (t.setEngine x) := h
theorem ClockKept.setFaultLatch (h : ClockKept s t) (b : Bool) : ClockKept s (t.setFaultLatch b) := h
theorem ClockKept.setCheckpointLatch (h : ClockKept s t) (b : Bool) : ClockKept s (t.setCheckpointLatch b) := h
theorem ClockKept.setFreeze (h : ClockKept s t) : ClockKept s t.setFreeze := h
theorem ClockKept.acceptCheckpoint (h : ClockKept s t) : ClockKept s t.acceptCheckpoint := h
theorem ClockKept.placeHeader (h : ClockKept s t) (purpose : HeaderPurpose) : ClockKept s (t.placeHeader purpose) := h
theorem ClockKept.dropMarks (h : ClockKept s t) (n : Nat) : ClockKept s (t.dropMarks n) := h
theorem ClockKept.restartTimer (h : ClockKept s t) : ClockKept s t.restartTimer := h.modLogRestart _ rfl rfl
theorem ClockKept.giveUp (h : ClockKept s t) : ClockKept s (t.modLog LogController.giveUp) := h.modLogRestart _ rfl rfl

/-! ## Shared operations -/

/-- What a walk or a low-space comparison may change is neither a policy nor the timer. -/
theorem ClockKept.walkFrame (h : ClockKept s t) (frame : WalkFrame t u) : ClockKept s u :=
  h.same (congrArg (·.log.policy) frame) (congrArg (·.log.timer.ticks) frame)

theorem ClockKept.walk (h : ClockKept s t) : ClockKept s t.walk := h.walkFrame t.walk_walkFrame

theorem ClockKept.compareLowSpace (h : ClockKept s t) : ClockKept s t.compareLowSpace :=
  h.walkFrame t.compareLowSpace_walkFrame

theorem ClockKept.refreshPorts (h : ClockKept s t) : ClockKept s t.refreshPorts := h.sameLog t.refreshPorts_log

theorem ClockKept.abandonCaptures (h : ClockKept s t) (p : Entry → Bool) : ClockKept s (t.abandonCaptures p) := by
  rw [State.abandonCaptures_eq]
  exact h

theorem ClockKept.refuseEntries (h : ClockKept s t) (p : Entry → Bool) (r : RefusalReason) :
    ClockKept s (t.refuseEntries p r) := by
  rw [State.refuseEntries_eq]
  exact h

theorem ClockKept.askHeader (h : ClockKept s t) (purpose : HeaderPurpose) : ClockKept s (t.askHeader purpose) := by
  obtain ⟨_, _, log⟩ := t.askHeader_log purpose
  exact h.same (by rw [log]) (by rw [log])

theorem ClockKept.dropCheckpointLatch (h : ClockKept s t) : ClockKept s t.dropCheckpointLatch := by
  rw [State.dropCheckpointLatch_eq]
  exact h

theorem ClockKept.dropFaultLatch (h : ClockKept s t) (prevented : EngineState) :
    ClockKept s (t.dropFaultLatch prevented) := by
  rw [State.dropFaultLatch_eq]
  exact h

theorem ClockKept.created (h : ClockKept s t) (created : Created t u) : ClockKept s u :=
  h.same (congrArg (·.policy) created.log) (congrArg (·.timer.ticks) created.log)

theorem ClockKept.createRecord (h : ClockKept s t) (e : Entry) (run : Run) (poison : Bool) (data : List Byte) :
    ClockKept s (t.createRecord e run poison data) :=
  h.created ((Created.appendFiller _ _).trans (Created.enterRecord _ _ _ _ _))

/-! ## The return to ARMED and the stream's responses -/

theorem ClockKept.acceptRollback (h : ClockKept s t) (target : Mark) : ClockKept s (t.acceptRollback target) :=
  h.same (congrArg (·.policy) (t.acceptRollback_log target)) (congrArg (·.timer.ticks) (t.acceptRollback_log target))

theorem ClockKept.acceptFaultRollback (h : ClockKept s t) : ClockKept s t.acceptFaultRollback := by
  unfold State.acceptFaultRollback
  split
  · exact h
  · exact h.acceptRollback _

theorem ClockKept.finishArmed (h : ClockKept s t) : ClockKept s t.finishArmed := by
  refine ClockKept.walk ?_
  unfold State.actOnLatches
  split
  · exact (h.setFaultLatch false).acceptFaultRollback.dropCheckpointLatch
  · split
    · exact (h.setCheckpointLatch false).acceptCheckpoint
    · exact h

theorem ClockKept.cancelAtLoggingStart (h : ClockKept s t) : ClockKept s t.cancelAtLoggingStart :=
  (h.refuseEntries _ _).refreshPorts

theorem ClockKept.endOperation (h : ClockKept s t) (kind : EventKind) (detail : Detail) :
    ClockKept s (t.endOperation kind detail) := ((h.report kind detail).setEngine .armed).finishArmed

theorem ClockKept.finishHeader (h : ClockKept s t) (purpose : HeaderPurpose) : ClockKept s (t.finishHeader purpose) := by
  cases purpose with
  | recycle => exact h.walkFrame t.walkStalled_walkFrame
  | checkpoint => exact h.endOperation _ _
  | release => exact h.endOperation _ _
  | discard => exact h.endOperation _ _
  | rollback => exact ((((h.report _ _).setEngine .armed).withRollback none).releaseHolds .rollback).finishArmed
  | attach => exact ((((h.setEngine .armed).report _ _).withScan none).restartTimer).cancelAtLoggingStart.finishArmed

theorem ClockKept.dropForBoundary (h : ClockKept s t) : ClockKept s t.dropForBoundary := by
  unfold State.dropForBoundary
  split
  · exact (((h.dropMarks 1).report _ _).compareLowSpace).oweWalk
  · exact h

theorem ClockKept.boundary (h : ClockKept s t) (reserved : Num) : ClockKept s (t.boundary reserved) := by
  have closed : ClockKept s t.closeMark := h
  have opened : ClockKept s (t.closeMark.dropForBoundary.openMark reserved) := closed.dropForBoundary
  exact (((opened.clearCaptureSet.restartTimer.placeHeader .checkpoint).abandonCaptures _).mapEntries _ _).created
    (Created.foldl _ _)

theorem ClockKept.truncateStream (h : ClockKept s t) (failed : StreamItem → Bool) :
    ClockKept s (t.truncateStream failed) := by
  obtain ⟨_, _, log⟩ := t.log.rewind_eq (streamRecords (discardedItems t.stream failed))
  exact h.same (congrArg (·.policy) log) (congrArg (·.timer.ticks) log)

theorem ClockKept.endInLogFault (h : ClockKept s t) : ClockKept s t.endInLogFault := h

theorem ClockKept.enterLogFault (h : ClockKept s t) (item : StreamItem) (failed : StreamItem → Bool) :
    ClockKept s (t.enterLogFault item failed) :=
  (((((((((h.truncateStream failed).clearCaptureSet).endInLogFault).post _ _ _ _).refuseEntries _ _).modLog _ rfl
    rfl).releaseHolds .rollback).compareLowSpace).dropCheckpointLatch.dropFaultLatch .logFault).oweWalk.refreshPorts

/-! ## Rollback -/

theorem ClockKept.completeRollback (h : ClockKept s t) (cursor : RollbackCursor) (replay : Replay) :
    ClockKept s (t.completeRollback cursor replay) :=
  (((((h.modLog _ rfl rfl).clearCaptureSet).restartTimer).mapEntries _ _).withRollback _).askHeader .rollback

theorem ClockKept.recordBad (h : ClockKept s t) (cursor : RollbackCursor) (replay : Replay) (position : Nat)
    (reason : BadReason) : ClockKept s (t.recordBad cursor replay position reason) :=
  ((h.setEngine .halted).withRollback _).post _ _ _ _

theorem ClockKept.haltReplay (h : ClockKept s t) (cursor : RollbackCursor) (replay : Replay) :
    ClockKept s (t.haltReplay cursor replay) := ((h.setEngine .halted).withRollback _).report _ _

theorem ClockKept.readRecord (h : ClockKept s t) (cursor : RollbackCursor) (replay : Replay) :
    ClockKept s (t.readRecord cursor replay) := by
  by_cases none : replay.back = 0
  · rw [State.readRecord_stops none]
    exact h.recordBad _ _ _ _
  · rw [State.readRecord_reads none]
    exact h

theorem ClockKept.advanceReplay (h : ClockKept s t) (cursor : RollbackCursor) (replay : Replay) :
    ClockKept s (t.advanceReplay cursor replay) := by
  unfold State.advanceReplay
  split
  · exact h
  · dsimp only
    split
    · exact h.completeRollback _ _
    · exact h.readRecord _ _

theorem ClockKept.moveBack (h : ClockKept s t) (cursor : RollbackCursor) (replay : Replay) (r : RecordHeader)
    (position : Nat) : ClockKept s (t.moveBack cursor replay r position) := by
  have moved : ClockKept s (t.moveLog r position) := (h.modLog _ rfl rfl).compareLowSpace.oweWalk
  unfold State.moveBack State.goOn
  split
  · exact moved.haltReplay _ _
  · exact (moved.withRollback _).advanceReplay _ _

theorem ClockKept.recordRead (h : ClockKept s t) (cursor : RollbackCursor) (replay : Replay) (position length : Nat)
    (bytes : List Byte) : ClockKept s (t.recordRead cursor replay position length bytes) := by
  unfold State.recordRead State.applyRecord
  split
  · exact h
  · split
    · exact h.recordBad _ _ _ _
    · split
      · split
        · exact (h.post _ _ _ _).moveBack _ _ _ _
        · exact (h.withRollback _).offerMaint _ _
      · exact h.moveBack _ _ _ _

theorem ClockKept.restored (h : ClockKept s t) (cursor : RollbackCursor) (replay : Replay) (r : RecordHeader)
    (position : Nat) (result : WriteResult) : ClockKept s (t.restored cursor replay r position result) := by
  cases result with
  | okay => exact h.moveBack _ _ _ _
  | error => exact (h.post _ _ _ _).moveBack _ _ _ _

theorem ClockKept.haltAt (h : ClockKept s t) (cursor : RollbackCursor) (replay : Replay) :
    ClockKept s (t.haltAt cursor replay) := by
  unfold State.haltAt
  split
  · exact h.haltReplay _ _
  · exact h
  · exact h.withRollback _

/-! ## FORMAT, ATTACH and DETACH -/

theorem ClockKept.acceptFormat (h : ClockKept s t) : ClockKept s t.acceptFormat :=
  (h.modLogRestart LogController.formatted rfl rfl).offerMaint _ _

theorem ClockKept.acceptAttach (h : ClockKept s t) : ClockKept s t.acceptAttach :=
  (((h.setEngine .scanning).restartTimer).withScan _).offerMaint _ _

theorem ClockKept.failFormat (h : ClockKept s t) (copy : CopyName) : ClockKept s (t.failFormat copy) :=
  ((h.post _ _ _ _).giveUp.setEngine .detached).dropFaultLatch .detached

theorem ClockKept.finishFormat (h : ClockKept s t) : ClockKept s t.finishFormat :=
  ((h.report _ _).setEngine .armed).cancelAtLoggingStart.finishArmed

theorem ClockKept.finishDetach (h : ClockKept s t) : ClockKept s t.finishDetach :=
  ((((h.report _ _).clearCaptureSet).giveUp).setEngine .detached).dropFaultLatch .detached

theorem ClockKept.failAttach (h : ClockKept s t) (address : Option Num) (reason : AttachFailure) :
    ClockKept s (t.failAttach address reason) :=
  (((h.post _ _ _ _).withScan none).setEngine .detached).dropFaultLatch .detached

theorem ClockKept.readWalkHeader (h : ClockKept s t) (c : ScanCursor) : ClockKept s (t.readWalkHeader c) := h

theorem ClockKept.postDropped (h : ClockKept s t) (dropped : Option Num) : ClockKept s (t.postDropped dropped) := by
  cases dropped with
  | none => exact h
  | some epoch => exact h.report _ _

theorem ClockKept.acceptWalked (h : ClockKept s t) (c : ScanCursor) (r : RecordHeader) :
    ClockKept s (t.acceptWalked c r) := (h.postDropped _).readWalkHeader _

theorem ClockKept.completeAttach (h : ClockKept s t) (c : ScanCursor) : ClockKept s (t.completeAttach c) := by
  unfold State.completeAttach
  split
  · exact h
  · exact ((((h.postDropped _).modLog _ rfl rfl).compareLowSpace).withScan _).askHeader .attach

theorem ClockKept.copyReturned (h : ClockKept s t) (c : ScanCursor) (copy : CopyName) (response : MemResponse) :
    ClockKept s (t.copyReturned c copy response) := by
  unfold State.copyReturned
  split
  · exact h.failAttach _ _
  · exact (h.withScan _).offerMaint _ _
  · unfold State.chooseAndWalk
    split
    · exact h.failAttach _ _
    · unfold State.startWalk
      split
      · exact h
      · exact h.readWalkHeader _

theorem ClockKept.headerWalked (h : ClockKept s t) (c : ScanCursor) (bytes : List Byte) :
    ClockKept s (t.headerWalked c bytes) := by
  unfold State.headerWalked
  dsimp only
  split
  · split
    · exact (h.withScan _).offerMaint _ _
    · split
      · exact h.acceptWalked _ _
      · exact h.completeAttach _
  · exact h.completeAttach _

theorem ClockKept.recordWalked (h : ClockKept s t) (c : ScanCursor) (r : RecordHeader) (bytes : List Byte) :
    ClockKept s (t.recordWalked c r bytes) := by
  unfold State.recordWalked
  split
  · exact h.acceptWalked _ _
  · exact h.completeAttach _

/-! ## Epochs, faults and the host port -/

theorem ClockKept.checkpointStrobe (h : ClockKept s t) (source : CheckpointSource) :
    ClockKept s (t.checkpointStrobe source) := by
  unfold State.checkpointStrobe
  split
  case h_1 => exact h.acceptCheckpoint
  case h_2 => exact h.setCheckpointLatch true
  case h_3 => exact h.setCheckpointLatch true
  all_goals exact h.report _ _

theorem ClockKept.acceptRelease (h : ClockKept s t) (n : Nat) : ClockKept s (t.acceptRelease n) :=
  ((((h.dropMarks n).compareLowSpace).walk).askHeader .release).setEngine .updating

theorem ClockKept.acceptDiscard (h : ClockKept s t) : ClockKept s t.acceptDiscard :=
  ((((((((h.withRollback none).modLogRestart LogController.discarded rfl rfl).clearCaptureSet).abandonCaptures
    _).mapEntries _ _).releaseHolds .rollback).compareLowSpace.oweWalk).askHeader .discard).setEngine .updating

theorem ClockKept.timerAction (h : ClockKept s t) : ClockKept s t.timerAction := by
  unfold State.timerAction
  split
  · exact h
  · exact h.checkpointStrobe _
  · exact h.setFreeze

theorem ClockKept.faultStrobe (h : ClockKept s t) : ClockKept s t.faultStrobe := by
  have seen := h.report .faultSeen (.action t.log.policy.faultAction)
  unfold State.faultStrobe State.faultRollback
  dsimp only
  split
  · exact seen
  · split
    · exact seen
    · exact seen.setFreeze
    · split
      case h_1 => exact seen.setFreeze.acceptFaultRollback
      case h_2 => exact seen.setFreeze.report _ _
      case h_3 => exact seen.setFreeze
      all_goals exact seen.setFreeze.setFaultLatch true

theorem ClockKept.thaw (h : ClockKept s t) : ClockKept s t.thaw := by
  unfold State.thaw
  split
  · exact (h.modLog _ rfl rfl).releaseHolds .freeze
  · exact h

theorem ClockKept.leaveOrdered (h : ClockKept s t) (e : Entry) : ClockKept s (t.leaveOrdered e) := by
  have decided : ClockKept s (if t.log.freeze then t.holdEntry e .freeze else t.decideCapture e) := by
    split <;> exact h
  unfold State.leaveOrdered State.leaveLoggedWrite
  split
  · split
    · exact h
    · split
      case h_1 | h_2 | h_3 => exact decided
      case h_11 => exact h.refuseEntries _ _
      all_goals exact h
  · split <;> exact h

theorem ClockKept.takeRequest (h : ClockKept s t) (r : HostRequest) : ClockKept s (t.takeRequest r) := by
  refine h.sameLog ?_
  unfold State.takeRequest
  dsimp only
  repeat' split
  all_goals rfl

theorem ClockKept.postDataError (h : ClockKept s t) (e : Entry) (response : MemResponse) :
    ClockKept s (t.postDataError e response) := by
  cases response with
  | okay data => exact h
  | error => exact h.post _ _ _ _

theorem ClockKept.grant (h : ClockKept s t) (g : Grant) : ClockKept s (t.grant g) := by
  cases g <;> exact h

/-! ## Every command -/

/-- Whatever state an outcome leads to keeps the policies of `s`, and the tick count or 0. -/
def ClockKeptBy (s : State) (o : Host.Outcome State Fault Refusal) : Prop := ∀ t, o = .next t → ClockKept s t

theorem ClockKeptBy.next (h : ClockKept s t) : ClockKeptBy s (.next t) := by
  rintro _ ⟨⟩
  exact h

theorem ClockKeptBy.idle (s : State) : ClockKeptBy s (.next s) := .next (.refl s)

theorem ClockKept.onFrame (take : State → State) (taken : ClockKept s (take s)) : ClockKept s (s.onFrame take) := by
  unfold State.onFrame
  split
  · exact .refl s
  · exact taken

/-- A link command taken from its frame. -/
theorem ClockKeptBy.onFrame (take : State → State) (taken : ClockKept s (take s)) :
    ClockKeptBy s (.next (s.onFrame take)) := .next (.onFrame take taken)

theorem execHostRequestAccept_clock (arriving : Option HostRequest) (s : State) :
    ClockKeptBy s (execHostRequestAccept arriving s) := by
  have arrived : ClockKept s (s.arrive arriving) := .refl s
  unfold execHostRequestAccept
  dsimp only
  split
  · exact .next arrived
  · split
    · exact .next arrived
    · split
      · exact .next ((arrived.withHost _).takeRequest _).refreshPorts
      · exact .next arrived

theorem execCaptureDecision_clock (s : State) : ClockKeptBy s (execCaptureDecision s) := by
  unfold execCaptureDecision
  split
  · exact .idle s
  · exact .next ((ClockKept.refl s).leaveOrdered _).refreshPorts

theorem execCaptureWalk_clock (s : State) : ClockKeptBy s (execCaptureWalk s) := by
  refine .next ?_
  split
  · exact (ClockKept.refl s).walk
  · exact .refl s

theorem execHeaderWritePlacement_clock (s : State) : ClockKeptBy s (execHeaderWritePlacement s) := by
  unfold execHeaderWritePlacement
  split
  · exact .idle s
  · split
    · exact .next (((ClockKept.refl s).modLog _ rfl rfl).placeHeader _)
    · exact .idle s

theorem execMemoryGrant_clock (s : State) : ClockKeptBy s (execMemoryGrant s) := by
  unfold execMemoryGrant
  split
  · exact .idle s
  · split
    · exact .idle s
    · exact .next ((ClockKept.refl s).grant _)

theorem execCaptureReadResponse_clock (response : MemResponse) (s : State) :
    ClockKeptBy s (execCaptureReadResponse response s) := by
  unfold execCaptureReadResponse
  split
  · split
    · split
      · split
        · exact .next ((ClockKept.refl s).freeSlot.updateEntry _ _ _)
        · exact .next ((ClockKept.refl s).freeSlot.createRecord _ _ _ _)
      · exact .idle s
    · exact .idle s
  · exact .idle s

theorem execAbandonedReadReturn_clock (response : MemResponse) (s : State) :
    ClockKeptBy s (execAbandonedReadReturn response s) := by
  unfold execAbandonedReadReturn
  split
  · split
    · exact .next ((((ClockKept.refl s).freeSlot.modStaging _).mapEntries _ _).oweWalk)
    · exact .idle s
  · exact .idle s

theorem execRecordWriteResponse_clock (result : WriteResult) (s : State) :
    ClockKeptBy s (execRecordWriteResponse result s) := by
  unfold execRecordWriteResponse
  split
  · split
    · split
      · exact .next (((((ClockKept.refl s).freeSlot.modStream _).modStaging _).modLog _ rfl rfl).mapEntries _ _).oweWalk
      · exact .idle s
      · exact .next ((ClockKept.refl s).freeSlot.enterLogFault _ _)
    · exact .idle s
  · exact .idle s

theorem execHeaderWriteResponse_clock (result : WriteResult) (s : State) :
    ClockKeptBy s (execHeaderWriteResponse result s) := by
  unfold execHeaderWriteResponse
  split
  · split
    · split
      · exact .next (((ClockKept.refl s).freeSlot.modStream _).finishHeader _)
      · exact .idle s
      · exact .next ((ClockKept.refl s).freeSlot.enterLogFault _ _)
    · exact .idle s
  · exact .idle s

theorem execDiscardedItemResponse_clock (result : WriteResult) (s : State) :
    ClockKeptBy s (execDiscardedItemResponse result s) := by
  unfold execDiscardedItemResponse
  split
  · exact .next (ClockKept.refl s).freeSlot
  · exact .idle s

theorem execCheckpointBoundary_clock (s : State) : ClockKeptBy s (execCheckpointBoundary s) := by
  unfold execCheckpointBoundary
  split
  · exact .idle s
  · exact .next ((ClockKept.refl s).boundary _)

theorem execQuiesceComplete_clock (s : State) : ClockKeptBy s (execQuiesceComplete s) := by
  unfold execQuiesceComplete
  split
  · exact .idle s
  · split
    · exact .next (((ClockKept.refl s).setEngine .rollingBack).advanceReplay _ _)
    · exact .idle s

theorem execRollbackRecordReadResponse_clock (response : MemResponse) (s : State) :
    ClockKeptBy s (execRollbackRecordReadResponse response s) := by
  unfold execRollbackRecordReadResponse
  split
  · exact .idle s
  · split
    · split
      · split
        · exact .next ((ClockKept.refl s).freeSlot.recordBad _ _ _ _)
        · exact .next ((ClockKept.refl s).freeSlot.recordRead _ _ _ _ _)
      · exact .idle s
    · exact .idle s

theorem execRestoreWriteResponse_clock (result : WriteResult) (s : State) :
    ClockKeptBy s (execRestoreWriteResponse result s) := by
  unfold execRestoreWriteResponse
  split
  · exact .idle s
  · split
    · split
      · exact .next ((ClockKept.refl s).freeSlot.restored _ _ _ _ _)
      · exact .idle s
    · exact .idle s

theorem execFormatCopyWriteResponse_clock (result : WriteResult) (s : State) :
    ClockKeptBy s (execFormatCopyWriteResponse result s) := by
  unfold execFormatCopyWriteResponse
  split
  · exact .idle s
  · exact .next ((ClockKept.refl s).freeSlot.failFormat _)
  · exact .next ((ClockKept.refl s).freeSlot.offerMaint _ _)
  · exact .next (ClockKept.refl s).freeSlot.finishFormat

theorem execAttachHeaderReadResponse_clock (response : MemResponse) (s : State) :
    ClockKeptBy s (execAttachHeaderReadResponse response s) := by
  unfold execAttachHeaderReadResponse
  split
  · exact .idle s
  · split
    · exact .next ((ClockKept.refl s).freeSlot.copyReturned _ _ _)
    · split
      · exact .next ((ClockKept.refl s).freeSlot.copyReturned _ _ _)
      · exact .idle s

theorem execWalkHeaderReadResponse_clock (response : MemResponse) (s : State) :
    ClockKeptBy s (execWalkHeaderReadResponse response s) := by
  unfold execWalkHeaderReadResponse
  split
  · exact .idle s
  · split
    · split
      · exact .next ((ClockKept.refl s).freeSlot.completeAttach _)
      · exact .next ((ClockKept.refl s).freeSlot.headerWalked _ _)
    · exact .idle s

theorem execWalkRecordReadResponse_clock (response : MemResponse) (s : State) :
    ClockKeptBy s (execWalkRecordReadResponse response s) := by
  unfold execWalkRecordReadResponse
  split
  · exact .idle s
  · split
    · exact .idle s
    · split
      · split
        · exact .next ((ClockKept.refl s).freeSlot.completeAttach _)
        · exact .next ((ClockKept.refl s).freeSlot.recordWalked _ _ _)
      · exact .idle s

theorem execHostAccessResponse_clock (response : MemResponse) (s : State) :
    ClockKeptBy s (execHostAccessResponse response s) := by
  unfold execHostAccessResponse
  split
  · split
    · split
      · exact .next (((ClockKept.refl s).freeSlot.updateEntry _ _ _).postDataError _ _).refreshPorts
      · exact .idle s
    · exact .idle s
  · exact .idle s

theorem execOrphanResponse_clock (response : MemResponse) (s : State) :
    ClockKeptBy s (execOrphanResponse response s) := by
  unfold execOrphanResponse
  split
  · exact .idle s
  · split
    · exact .next (ClockKept.refl s).freeSlot
    · exact .idle s

theorem execDetachComplete_clock (s : State) : ClockKeptBy s (execDetachComplete s) := by
  refine .next ?_
  split
  · exact (ClockKept.refl s).finishDetach
  · exact .refl s

theorem execResponseDelivery_clock (s : State) : ClockKeptBy s (execResponseDelivery s) := by
  unfold execResponseDelivery
  split
  · exact .idle s
  · exact .next (((ClockKept.refl s).withWindow _).withHost _).refreshPorts

theorem execHoldTimeout_clock (s : State) : ClockKeptBy s (execHoldTimeout s) := by
  unfold execHoldTimeout
  split
  · exact .idle s
  · exact .next ((ClockKept.refl s).refuseEntries _ _).refreshPorts

theorem execEpochTimer_clock (s : State) : ClockKeptBy s (execEpochTimer s) := by
  unfold execEpochTimer
  split
  · exact .idle s
  · exact .next (((ClockKept.refl s).modLog _ rfl rfl).report _ _).timerAction

theorem execCkptStrobe_clock (s : State) : ClockKeptBy s (execCkptStrobe s) := by
  refine .next ?_
  split
  · exact .refl s
  · exact (ClockKept.refl s).checkpointStrobe _

theorem execFaultStrobe_clock (s : State) : ClockKeptBy s (execFaultStrobe s) := by
  refine .next ?_
  split
  · exact .refl s
  · exact (ClockKept.refl s).faultStrobe

theorem execFrameDiscard_clock (bits : List Bool) (s : State) : ClockKeptBy s (execFrameDiscard bits s) := by
  refine .onFrame _ ?_
  split
  · exact (ClockKept.refl s).respond _ _
  · exact .refl s
  · exact .refl s

theorem execSetRegion_clock (index : Byte) (base size : Num) (mode mask : Byte) (s : State) :
    ClockKeptBy s (execSetRegion index base size mode mask s) := by
  refine .onFrame _ ?_
  split
  · exact (ClockKept.refl s).refuse _
  · split
    · exact (ClockKept.refl s).refuse _
    · split
      · exact (ClockKept.refl s).refuse _
      · split
        · exact (ClockKept.refl s).refuse _
        · exact ((ClockKept.refl s).withRegions _).respond _ _

theorem execClearRegion_clock (index : Byte) (s : State) : ClockKeptBy s (execClearRegion index s) := by
  refine .onFrame _ ?_
  split
  · exact (ClockKept.refl s).refuse _
  · split
    · exact (ClockKept.refl s).refuse _
    · split
      · exact (ClockKept.refl s).refuse _
      · exact ((ClockKept.refl s).withRegions _).respond _ _

theorem execReadRegion_clock (index : Byte) (s : State) : ClockKeptBy s (execReadRegion index s) := by
  refine .onFrame _ ?_
  split
  · exact (ClockKept.refl s).refuse _
  · exact (ClockKept.refl s).respond _ _

theorem execSetLog_clock (base size : Num) (s : State) : ClockKeptBy s (execSetLog base size s) := by
  refine .onFrame _ ?_
  split
  · split
    · exact (ClockKept.refl s).refuse _
    · split
      · exact (ClockKept.refl s).refuse _
      · exact ((ClockKept.refl s).modLog _ rfl rfl).respond _ _
  · exact (ClockKept.refl s).refuse _

theorem ClockKept.startInDetached (s : State) (accept : State → State)
    (accepted : ClockKept s (accept (s.respond .started []))) : ClockKept s (s.startInDetached accept) := by
  unfold State.startInDetached
  split
  · split
    · exact (ClockKept.refl s).refuse _
    · exact accepted
  · exact (ClockKept.refl s).refuse _

theorem execDetach_clock (s : State) : ClockKeptBy s (execDetach s) := by
  refine .onFrame _ ?_
  split
  · exact (((ClockKept.refl s).respond .started []).setEngine .detaching).mapEntries Entry.isLoggedWrite Entry.detach
  · exact (ClockKept.refl s).refuse _

theorem execCheckpoint_clock (s : State) : ClockKeptBy s (execCheckpoint s) := by
  refine .onFrame _ ?_
  split
  · exact ((ClockKept.refl s).respond _ _).acceptCheckpoint
  · exact (ClockKept.refl s).refuse _

theorem execRelease_clock (n : Byte) (s : State) : ClockKeptBy s (execRelease n s) := by
  refine .onFrame _ ?_
  split
  · split
    · exact ((ClockKept.refl s).respond _ _).acceptRelease _
    · exact (ClockKept.refl s).refuse _
  · exact (ClockKept.refl s).refuse _

theorem execDiscard_clock (s : State) : ClockKeptBy s (execDiscard s) := by
  refine .onFrame _ ?_
  split
  · exact ((ClockKept.refl s).respond _ _).acceptDiscard
  · exact (ClockKept.refl s).refuse _

theorem execRollback_clock (depth : Byte) (s : State) : ClockKeptBy s (execRollback depth s) := by
  refine .onFrame _ ?_
  split
  · split
    · exact ((ClockKept.refl s).respond _ _).acceptRollback _
    · exact (ClockKept.refl s).refuse _
  · exact (ClockKept.refl s).refuse _

theorem execHalt_clock (s : State) : ClockKeptBy s (execHalt s) := by
  refine .onFrame _ ?_
  split
  · dsimp only
    split
    · exact (ClockKept.refl s).respond _ _
    · exact ((ClockKept.refl s).respond _ _).haltAt _ _
  · exact (ClockKept.refl s).refuse _

theorem execResume_clock (s : State) : ClockKeptBy s (execResume s) := by
  refine .onFrame _ ?_
  split
  · dsimp only
    split
    · exact ((ClockKept.refl s).respond _ _).setEngine _
    · exact (((ClockKept.refl s).respond _ _).setEngine _).advanceReplay _ _
  · exact (ClockKept.refl s).refuse _

theorem execReadMark_clock (index : Byte) (s : State) : ClockKeptBy s (execReadMark index s) := by
  refine .onFrame _ ?_
  split
  · exact (ClockKept.refl s).refuse _
  · exact (ClockKept.refl s).respond _ _

theorem execPopEvent_clock (s : State) : ClockKeptBy s (execPopEvent s) := by
  refine .onFrame _ ?_
  split
  · exact (ClockKept.refl s).refuse _
  · exact ((ClockKept.refl s).modEvents _).respond _ _

/-- What a command does keeps the policies and the tick count, one line for each row of the opcode table but SET_POLICY,
TICK and the resets. -/
theorem exec_clock (c : Instr) (s : State) (noReset : isReset c = false) (noTick : c ≠ .tick)
    (noPolicy : ∀ l f h n p r a, c ≠ .setPolicy l f h n p r a) : ClockKeptBy s (exec c s) := by
  have refl := ClockKept.refl s
  cases c with
  | powerOn => cases noReset
  | rst edge =>
    cases edge with
    | falls => cases noReset
    | rises => exact .next (refl.withRst false)
  | hostRequestAccept arriving => exact execHostRequestAccept_clock arriving s
  | captureDecision => exact execCaptureDecision_clock s
  | captureWalk => exact execCaptureWalk_clock s
  | headerWritePlacement => exact execHeaderWritePlacement_clock s
  | memoryGrant => exact execMemoryGrant_clock s
  | captureReadResponse response => exact execCaptureReadResponse_clock response s
  | abandonedReadReturn response => exact execAbandonedReadReturn_clock response s
  | recordWriteResponse result => exact execRecordWriteResponse_clock result s
  | headerWriteResponse result => exact execHeaderWriteResponse_clock result s
  | discardedItemResponse result => exact execDiscardedItemResponse_clock result s
  | checkpointBoundary => exact execCheckpointBoundary_clock s
  | quiesceComplete => exact execQuiesceComplete_clock s
  | rollbackRecordReadResponse response => exact execRollbackRecordReadResponse_clock response s
  | restoreWriteResponse result => exact execRestoreWriteResponse_clock result s
  | formatCopyWriteResponse result => exact execFormatCopyWriteResponse_clock result s
  | attachHeaderReadResponse response => exact execAttachHeaderReadResponse_clock response s
  | walkHeaderReadResponse response => exact execWalkHeaderReadResponse_clock response s
  | walkRecordReadResponse response => exact execWalkRecordReadResponse_clock response s
  | hostAccessResponse response => exact execHostAccessResponse_clock response s
  | orphanResponse response => exact execOrphanResponse_clock response s
  | strayResponse response => exact .idle s
  | detachComplete => exact execDetachComplete_clock s
  | responseDelivery => exact execResponseDelivery_clock s
  | holdTimeout => exact execHoldTimeout_clock s
  | epochTimer => exact execEpochTimer_clock s
  | ckptStrobe => exact execCkptStrobe_clock s
  | faultStrobe => exact execFaultStrobe_clock s
  | frameDiscard bits => exact execFrameDiscard_clock bits s
  | nop => exact .onFrame _ (refl.respond _ _)
  | readStatus => exact .onFrame _ (refl.respond _ _)
  | setRegion index base size mode mask => exact execSetRegion_clock index base size mode mask s
  | clearRegion index => exact execClearRegion_clock index s
  | readRegion index => exact execReadRegion_clock index s
  | setLog base size => exact execSetLog_clock base size s
  | format => exact .onFrame _ (.startInDetached s _ (refl.respond _ _).acceptFormat)
  | attach => exact .onFrame _ (.startInDetached s _ (refl.respond _ _).acceptAttach)
  | detach => exact execDetach_clock s
  | checkpoint => exact execCheckpoint_clock s
  | release n => exact execRelease_clock n s
  | discard => exact execDiscard_clock s
  | rollback depth => exact execRollback_clock depth s
  | halt => exact execHalt_clock s
  | resume => exact execResume_clock s
  | freeze => exact .onFrame _ (refl.respond _ _).setFreeze
  | thaw => exact .onFrame _ (refl.respond _ _).thaw
  | setPolicy logFull faultAction holdLimit threshold prescaler reference timerAction =>
    exact absurd rfl (noPolicy _ _ _ _ _ _ _)
  | readPolicy => exact .onFrame _ (refl.respond _ _)
  | readMark index => exact execReadMark_clock index s
  | popEvent => exact execPopEvent_clock s
  | clearSummary => exact .onFrame _ ((refl.modEvents _).respond _ _)
  | restart => cases noReset
  | tick => exact absurd rfl noTick

/-! ## SET_POLICY, TICK and the resets -/

/-- A tick leaves the tick count below the prescaler (R50). -/
theorem EpochTimer.tick_ticks_lt (t : EpochTimer) (p : Policy) (least : 1 ≤ p.prescaler) :
    (t.tick p).ticks < p.prescaler := by
  unfold EpochTimer.tick
  split
  · next below => exact below
  · exact least

theorem execTick_timerLaw (law : TimerLaw s) (ticked : execTick s = .next t) : TimerLaw t := by
  obtain ⟨threshold, least, most, _⟩ := law
  cases ticked
  refine ⟨threshold, least, most, ?_⟩
  change (if s.log.engine.unattached then stoppedTimer else s.log.timer.tick s.log.policy).ticks < s.log.policy.prescaler
  split
  · exact least
  · exact s.log.timer.tick_ticks_lt s.log.policy least

/-- Policies that SET_POLICY accepts are in their ranges (R196). -/
theorem policyArguments_ranges {logFull faultAction threshold timerAction : Byte} {holdLimit prescaler : BitVec 16}
    {reference : Num} {p : Policy}
    (accepted : policyArguments logFull faultAction holdLimit threshold prescaler reference timerAction = some p) :
    p.threshold ≤ 100 ∧ 1 ≤ p.prescaler ∧ p.prescaler ≤ 256 := by
  unfold policyArguments at accepted
  split at accepted
  · split at accepted
    · next ranges => cases accepted; exact ranges
    · cases accepted
  · cases accepted

/-- New policies in their ranges: a changed prescaler returns the tick count to 0 (R50, R196). -/
theorem TimerLaw.setPolicies (law : TimerLaw s) {p : Policy}
    (ranges : p.threshold ≤ 100 ∧ 1 ≤ p.prescaler ∧ p.prescaler ≤ 256) : TimerLaw (s.setPolicies p) := by
  obtain ⟨_, _, _, below⟩ := law
  obtain ⟨threshold, least, most⟩ := ranges
  have set : TimerLaw (s.modLog fun l => { l with policy := p, timer := l.timer.adopt l.policy p }) := by
    refine ⟨threshold, least, most, ?_⟩
    change (s.log.timer.adopt s.log.policy p).ticks < p.prescaler
    unfold EpochTimer.adopt
    split
    · next unchanged => exact unchanged ▸ below
    · exact least
  have walked (u : State) (unchanged : Bool) : ClockKept u (u.walkUnless unchanged) := by
    cases unchanged
    · exact (ClockKept.refl u).walk
    · exact .refl u
  have compared (u : State) (unchanged : Bool) : ClockKept u (u.compareUnless unchanged) := by
    cases unchanged
    · exact (ClockKept.refl u).compareLowSpace
    · exact .refl u
  exact (compared _ _).timerLaw ((walked _ _).timerLaw set)

theorem execSetPolicy_timerLaw {logFull faultAction threshold timerAction : Byte} {holdLimit prescaler : BitVec 16}
    {reference : Num} (law : TimerLaw s)
    (set : execSetPolicy logFull faultAction holdLimit threshold prescaler reference timerAction s = .next t) :
    TimerLaw t := by
  cases set
  unfold State.onFrame
  split
  · exact law
  · split
    · exact law
    · next accepted => exact TimerLaw.setPolicies (s := s.respond .done []) law (policyArguments_ranges accepted)

/-- Every reset gives the Log Controller its reset values, which are under the law (R146). -/
theorem exec_reset_timerLaw {c : Instr} (reset : isReset c = true) (law : TimerLaw s) (taken : exec c s = .next t) :
    TimerLaw t := by
  obtain ⟨_, _, _, _, _, _, values⟩ := lawsHoldAtReset
  unfold isReset at reset
  split at reset
  · cases taken; exact values
  · cases taken; exact values
  · cases taken
    unfold State.onFrame
    split
    · exact law
    · exact values
  · cases reset

/-- What a command does keeps the timer law. -/
theorem exec_timerLaw (c : Instr) (law : TimerLaw s) (taken : exec c s = .next t) : TimerLaw t := by
  by_cases policy : ∃ l f h n p r a, c = .setPolicy l f h n p r a
  · obtain ⟨_, _, _, _, _, _, _, rfl⟩ := policy
    exact execSetPolicy_timerLaw law taken
  · by_cases tick : c = .tick
    · subst tick
      exact execTick_timerLaw law taken
    · cases reset : isReset c with
      | true => exact exec_reset_timerLaw reset law taken
      | false =>
        have kept := exec_clock c s reset tick fun l f h n p r a set => policy ⟨l, f, h, n, p, r, a, set⟩
        exact (kept t taken).timerLaw law

/-- Settles O9: an idle step changes nothing, and any other takes a command. -/
theorem everyStepKeepsTheTimerLaw : Obligations.EveryStepKeepsTheTimerLaw := by
  intro s t law stepped
  unfold step at stepped
  split at stepped
  · cases stepped
    exact law
  · next rest _ => exact exec_timerLaw _ (s := s.withPending rest) law stepped

end Sys2Proof.Machine
end

/-! # Acceptance and refusal of long operations, strobes and the timers (O28, O36, O40, O41) -/

section
-- One proof after another: the threads of many at once outgrow the check's memory limit.
set_option Elab.async false
namespace Sys2Proof.Machine

section
variable {s : State}

/-- While RST is high a link frame is taken (R181). -/
theorem State.onFrame_eq (running : s.rstLow = false) (take : State → State) : s.onFrame take = take s := by
  rw [State.onFrame, running]
  rfl

/-! ## Refusal by engine state (R32, R188) -/

theorem EngineState.startRefusal_busy {x : EngineState} (inFlight : x ∉ [EngineState.detached, .armed, .logFault]) :
    x.startRefusal = .busy := by
  cases x <;> simp_all [EngineState.startRefusal, EngineState.busy]

theorem EngineState.startRefusal_state {x : EngineState} (idle : x ∈ [EngineState.detached, .armed, .logFault]) :
    x.startRefusal = .state := by
  cases x <;> simp_all [EngineState.startRefusal, EngineState.busy]

/-- FORMAT and ATTACH outside DETACHED (R129, R133). -/
theorem exec_startInDetached_refused (running : s.rstLow = false) (elsewhere : s.log.engine ≠ .detached) :
    ∀ c ∈ [Instr.format, .attach], exec c s = .next (s.refuse s.log.engine.startRefusal) := by
  have refused (accept : State → State) : s.startInDetached accept = s.refuse s.log.engine.startRefusal :=
    if_neg elsewhere
  simp [exec, execFormat, execAttach, State.onFrame_eq running, refused]

/-- FORMAT and ATTACH without a log area (R129, R133). -/
theorem exec_startInDetached_noLogArea (running : s.rstLow = false) (detached : s.log.engine = .detached)
    (unset : s.log.area = none) : ∀ c ∈ [Instr.format, .attach], exec c s = .next (s.refuse .noLogArea) := by
  have refused (accept : State → State) : s.startInDetached accept = s.refuse .noLogArea := by
    rw [State.startInDetached, if_pos detached, unset]
  simp [exec, execFormat, execAttach, State.onFrame_eq running, refused]

/-- CHECKPOINT, RELEASE and ROLLBACK outside ARMED (R34, R44, R103). -/
theorem exec_startInArmed_refused (n d : Byte) (running : s.rstLow = false) (elsewhere : s.log.engine ≠ .armed) :
    ∀ c ∈ [Instr.checkpoint, .release n, .rollback d], exec c s = .next (s.refuse s.log.engine.startRefusal) := by
  simp [exec, execCheckpoint, execRelease, execRollback, State.onFrame_eq running, elsewhere]

/-- DISCARD and DETACH outside ARMED, HALTED and LOG_FAULT (R46, R143). -/
theorem exec_discard_detach_refused (running : s.rstLow = false)
    (elsewhere : s.log.engine ∉ [EngineState.armed, .halted, .logFault]) :
    ∀ c ∈ [Instr.discard, .detach], exec c s = .next (s.refuse s.log.engine.startRefusal) := by
  have discard : s.log.engine.takesDiscard = false := by
    generalize s.log.engine = x at *; cases x <;> simp_all [EngineState.takesDiscard]
  have detach : s.log.engine.takesDetach = false := by
    generalize s.log.engine = x at *; cases x <;> simp_all [EngineState.takesDetach]
  simp [exec, execDiscard, execDetach, State.onFrame_eq running, discard, detach]

/-- RELEASE with a count out of range (R44). -/
theorem exec_release_range (n : Byte) (running : s.rstLow = false) (armed : s.log.engine = .armed)
    (outside : n.toNat = 0 ∨ s.log.marks.length ≤ n.toNat) : exec (.release n) s = .next (s.refuse .range) := by
  have outside : ¬(1 ≤ n.toNat ∧ n.toNat < s.log.marks.length) := by omega
  simp only [exec, execRelease, State.onFrame_eq running, if_pos armed, if_neg outside]

/-- ROLLBACK to a depth at which no mark stands (R103). -/
theorem exec_rollback_range (d : Byte) (running : s.rstLow = false) (armed : s.log.engine = .armed)
    (outside : s.log.marks.length ≤ d.toNat) : exec (.rollback d) s = .next (s.refuse .range) := by
  have unmarked : markAtDepth s.log.marks d.toNat = none := by
    rw [markAtDepth, List.getElem?_eq_none_iff, List.length_reverse]
    exact outside
  simp only [exec, execRollback, State.onFrame_eq running, if_pos armed, unmarked]

end

/-- Settles O28: each command is refused for the engine state, with the reason that `startRefusal` gives it, or for its
argument. -/
theorem longOperationsAreRefusedByEngineState : Obligations.LongOperationsAreRefusedByEngineState := by
  intro s n d running inFlight refused
  have refusal {c : Instr} {reason : CommandRefusal} (answer : exec c s = .next (s.refuse s.log.engine.startRefusal))
      (why : s.log.engine.startRefusal = reason) : refused c reason := by
    rw [← why]
    exact answer
  have idle {x : EngineState} (here : s.log.engine = x) (listed : x ∈ [EngineState.detached, .armed, .logFault]) :
      s.log.engine.startRefusal = .state := EngineState.startRefusal_state (here ▸ listed)
  have away (x : EngineState) (flying : inFlight) (listed : x ∈ [EngineState.detached, .armed, .logFault]) :
      s.log.engine ≠ x := fun here => flying (here ▸ listed)
  refine ⟨fun c mem flying => ?_, fun c mem flying free => ?_, fun c mem here => ?_, fun c mem here => ?_,
    fun c mem here => ?_, fun c mem here unset => ?_, fun here outside => ?_, fun here outside => ?_⟩
  · refine refusal ?_ (EngineState.startRefusal_busy flying)
    have split : c ∈ [Instr.format, .attach] ∨ c ∈ [Instr.checkpoint, .release n, .rollback d] := by
      simpa [or_assoc] using mem
    rcases split with attached | armed
    · exact exec_startInDetached_refused running (away _ flying (by simp)) c attached
    · exact exec_startInArmed_refused n d running (away _ flying (by simp)) c armed
  · have elsewhere : s.log.engine ∉ [EngineState.armed, .halted, .logFault] := by
      simp [away .armed flying (by simp), away .logFault flying (by simp), free]
    exact refusal (exec_discard_detach_refused running elsewhere c mem) (EngineState.startRefusal_busy flying)
  · have elsewhere : s.log.engine ≠ .detached := by rcases here with h | h <;> simp [h]
    refine refusal (exec_startInDetached_refused running elsewhere c mem) ?_
    exact here.elim (idle · (by simp)) (idle · (by simp))
  · have elsewhere : s.log.engine ≠ .armed := by rcases here with h | h <;> simp [h]
    refine refusal (exec_startInArmed_refused n d running elsewhere c mem) ?_
    exact here.elim (idle · (by simp)) (idle · (by simp))
  · exact refusal (exec_discard_detach_refused running (by simp [here]) c mem) (idle here (by simp))
  · exact exec_startInDetached_noLogArea running here unset c mem
  · exact exec_release_range n running here outside
  · exact exec_rollback_range d running here outside

/-! ## Checkpoint strobes (R42) -/

section
variable (s : State) (source : CheckpointSource)

theorem State.checkpointStrobe_accepted (armed : s.log.engine = .armed) :
    s.checkpointStrobe source = s.acceptCheckpoint := by
  rw [State.checkpointStrobe, armed]

theorem State.checkpointStrobe_latched (working : s.log.engine ∈ [EngineState.checkpointing, .updating]) :
    s.checkpointStrobe source = s.setCheckpointLatch true := by
  rcases List.mem_pair.1 working with here | here <;> rw [State.checkpointStrobe, here]

theorem State.checkpointStrobe_ignored (elsewhere : s.log.engine ∉ [EngineState.armed, .checkpointing, .updating]) :
    s.checkpointStrobe source = s.report .checkpointIgnored (.source source) := by
  unfold State.checkpointStrobe
  split
  case h_1 here => exact absurd (here ▸ elsewhere) (by simp)
  case h_2 here => exact absurd (here ▸ elsewhere) (by simp)
  case h_3 here => exact absurd (here ▸ elsewhere) (by simp)
  all_goals rfl

end

theorem exec_ckptStrobe {s : State} (running : s.rstLow = false) :
    exec .ckptStrobe s = .next (s.checkpointStrobe .line) := by
  simp [exec, execCkptStrobe, running]

/-- Settles O36: a strobe, and CHECKPOINT in ARMED, are acted on as the engine state says. -/
theorem checkpointAcceptanceReservesTheEpoch : Obligations.CheckpointAcceptanceReservesTheEpoch := by
  intro s running
  rw [exec_ckptStrobe running]
  refine ⟨fun armed => ⟨?_, ?_⟩, fun working => ?_, fun elsewhere => ?_⟩
  · simp only [exec, execCheckpoint, State.onFrame_eq running, if_pos armed]
    rfl
  · rw [State.checkpointStrobe_accepted _ _ armed]
    rfl
  · rw [State.checkpointStrobe_latched _ _ working]
    rfl
  · rw [State.checkpointStrobe_ignored _ _ elsewhere]
    rfl

/-! ## The epoch timer (R50, R52) -/

/-- The state in which a firing's action is made: the firing is no longer due, and is posted (R52). -/
def State.fireTimer (s : State) (count : Num) : State :=
  (s.modLog fun l => { l with timer := { l.timer with fired := true, due := none } }).report .epochTimer (.number count)

/-- A firing that is due is made, and then its action (R52). -/
theorem exec_epochTimer {s : State} {count : Num} (due : s.log.timer.due = some count) :
    exec .epochTimer s = .next (s.fireTimer count).timerAction := by
  rw [exec, execEpochTimer, due]
  rfl

/-- The action CHECKPOINT is a strobe of the timer (R42, R52). -/
theorem State.timerAction_checkpoint {s : State} (action : s.log.policy.timerAction = .checkpoint) :
    s.timerAction = s.checkpointStrobe .timer := by
  rw [State.timerAction, action]

/-- Settles O41: the firing is posted, and the action is then the policy's, a CHECKPOINT being a strobe of the timer. -/
theorem epochTimerFires : Obligations.EpochTimerFires := by
  intro s count due fired log
  rw [exec_epochTimer due]
  have policy : (s.fireTimer count).log.policy = s.log.policy := rfl
  have engine : (s.fireTimer count).log.engine = s.log.engine := rfl
  rw [← policy, ← engine]
  refine ⟨fun action => ?_, fun action => ?_, fun action => ⟨fun armed => ?_, fun working => ?_, fun elsewhere => ?_⟩⟩
  · rw [State.timerAction, action]
    rfl
  · rw [State.timerAction, action]
    rfl
  · rw [State.timerAction_checkpoint action, State.checkpointStrobe_accepted _ _ armed]
    rfl
  · rw [State.timerAction_checkpoint action, State.checkpointStrobe_latched _ _ working]
    rfl
  · rw [State.timerAction_checkpoint action, State.checkpointStrobe_ignored _ _ elsewhere]
    rfl

section
variable {t : EpochTimer} {p : Policy}

/-- Short of the prescaler a tick counts in the tick count (R50). -/
theorem EpochTimer.tick_short (short : t.ticks + 1 < p.prescaler) : t.tick p = { t with ticks := t.ticks + 1 } :=
  if_pos short

/-- At the prescaler a counter at its maximum stays there (R50). -/
theorem EpochTimer.tick_maximum (reached : p.prescaler ≤ t.ticks + 1) (maximum : t.counter = 0xFFFFFFFF) :
    t.tick p = { t with ticks := 0 } := by
  have stays : nextCount t.counter = t.counter := by rw [nextCount, maximum]; rfl
  simp [EpochTimer.tick, Nat.not_lt.2 reached, firingDue, stays]

/-- At the prescaler the counter increases, and a firing may fall due (R50, R52). -/
theorem EpochTimer.tick_count (reached : p.prescaler ≤ t.ticks + 1) (below : t.counter ≠ 0xFFFFFFFF)
    (due : t.due = none) : t.tick p = { t with
      ticks := 0, counter := t.counter + 1
      due :=
        if p.reference ≠ 0 ∧ t.counter + 1 = p.reference ∧ t.fired = false then some (t.counter + 1)
        else none } := by
  have increases : nextCount t.counter = t.counter + 1 := if_neg below
  simp [EpochTimer.tick, Nat.not_lt.2 reached, firingDue, increases, due]

end

theorem EngineState.unattached_iff (x : EngineState) :
    x.unattached = true ↔ x = .detached ∨ x = .formatting ∨ x = .scanning := by
  cases x <;> simp [EngineState.unattached]

/-- Settles O40: the hold timers count in every case, and the epoch timer by the lemmas on its tick. -/
theorem tickCountsTheTimers : Obligations.TickCountsTheTimers := by
  intro s held t next idle
  have ticked (timer : EpochTimer)
      (counts : (if s.log.engine.unattached then stoppedTimer else t.tick s.log.policy) = timer) : next timer := by
    subst counts
    rfl
  have counting (attached : ¬idle) {timer : EpochTimer} (counts : t.tick s.log.policy = timer) : next timer :=
    ticked timer (by rw [if_neg fun unattached => attached ((EngineState.unattached_iff _).1 unattached), counts])
  refine ⟨fun unattached => ?_, fun attached short => ?_, fun attached reached maximum => ?_,
    fun attached reached below due => ⟨fun fires => ?_, fun calm => ?_⟩⟩
  · exact ticked _ (if_pos ((EngineState.unattached_iff _).2 unattached))
  · exact counting attached (EpochTimer.tick_short short)
  · exact counting attached (EpochTimer.tick_maximum reached maximum)
  · exact counting attached ((EpochTimer.tick_count reached below due).trans (by rw [if_pos fires]))
  · exact counting attached ((EpochTimer.tick_count reached below due).trans (by rw [if_neg calm, ← due]))

end Sys2Proof.Machine
end

/-! # The end of FORMAT and of ATTACH, and the latches at a return to ARMED (O30, O44) -/

section
-- One proof after another: the threads of many at once outgrow the check's memory limit.
set_option Elab.async false
namespace Sys2Proof.Machine

/-! ## Logging begins (R92) -/

/-- A refusal that looks at no run refuses the entries it names, their captures abandoned (R70, R98). -/
theorem State.refuseEntries_window (s : State) {p : Entry → Bool} (reason : RefusalReason)
    (respects : ∀ e : Entry, p e.abandon = p e) :
    (s.refuseEntries p reason).window = s.window.map fun e => if p e then e.abandon.finish .refused [] else e := by
  rw [State.refuseEntries_eq, List.map_map]
  refine List.map_congr_left fun e _ => ?_
  rw [Function.comp_apply]
  by_cases refused : p e = true
  · have refused' : p e.abandon = true := (respects e).trans refused
    rw [if_pos refused, if_pos refused', if_pos refused]
  · rw [if_neg refused, if_neg refused, if_neg refused]

/-- The entries cancelled when logging begins: logged writes in ORDERED or READY (R92). -/
theorem cancelledAtLoggingStart_eq (e : Entry) :
    (e.isLoggedWrite && (e.isOrdered || e.isReady)) =
      decide (e.isLoggedWrite ∧ (e.phase = .ordered ∨ e.phase = .ready)) := by
  rw [Bool.decide_and, Bool.decide_or, Bool.decide_eq_true]
  rfl

/-- What the beginning of logging changes (R92, R98). -/
theorem State.cancelAtLoggingStart_eq (s : State) :
    s.cancelAtLoggingStart = { s with
      port := { s.port with bypass := s.cancelAtLoggingStart.port.bypass }
      host := { s.host with offered := s.cancelAtLoggingStart.host.offered }
      log := { s.log with reserved := s.cancelAtLoggingStart.log.reserved }
      staging := { s.staging with runSlots := s.cancelAtLoggingStart.staging.runSlots }
      capture := { s.capture with walkOwed := s.cancelAtLoggingStart.capture.walkOwed }
      events := refusalEvents s.log.currentEpoch .cancelled
        (s.window.filter fun e => decide (e.isLoggedWrite ∧ (e.phase = .ordered ∨ e.phase = .ready))) s.events
      window := s.window.map fun e =>
        if e.isLoggedWrite ∧ (e.phase = .ordered ∨ e.phase = .ready) then
          { e with phase := .done .refused [], runs := abandonRuns e.runs, waits := { hit := none, own := none },
                   payload := [] }
        else e } := by
  have window := s.refuseEntries_window (p := fun e => e.isLoggedWrite && (e.isOrdered || e.isReady)) .cancelled
    fun _ => rfl
  simp only [cancelledAtLoggingStart_eq, decide_eq_true_eq] at window
  simp only [State.cancelAtLoggingStart, cancelledAtLoggingStart_eq, State.refreshPorts_eq]
  exact State.eq_of_blocks (window := window) (events := by rw [State.refuseEntries_eq])
    (log := by rw [State.refuseEntries_eq]) (capture := by rw [State.refuseEntries_eq])
    (staging := by rw [State.refuseEntries_eq]; rfl)

/-! ## FORMAT (R131, R132) -/

section
variable {s : State} {o : Outstanding} {rest : List Outstanding} {copy : CopyName}

theorem State.formatCopyInFlight_eq (outstanding : s.port.outstanding = o :: rest) (orphan : o.orphan = false)
    (owner : o.owner = .maint (.formatCopy copy)) (formatting : s.log.engine = .formatting) :
    s.formatCopyInFlight = some copy := by
  obtain ⟨claimant, owner', request, orphan'⟩ := o
  cases owner
  rw [State.formatCopyInFlight, State.oldestRequest_eq outstanding orphan]
  exact if_pos formatting

/-- A failed FORMAT gives the log up in DETACHED, and a latched fault is dropped there, with epoch 0 (R132, R166). -/
theorem State.failFormat_eq (s : State) (copy : CopyName) :
    s.failFormat copy =
      (let failed := s.events.post
        { kind := .attachFailed, epoch := s.log.currentEpoch, address := some (s.log.copyAddress copy),
          requester := none, detail := .attachFailure .write }
      { s with
        events :=
          if s.log.faultLatch then failed.post
            { kind := .faultDropped, epoch := 0, address := none, requester := none, detail := .prevented .detached }
          else failed
        log := { s.log.giveUp with engine := .detached, faultLatch := false } }) := by
  rw [State.failFormat, State.dropFaultDetached, State.dropFaultLatch_eq]
  rfl

end

/-- Settles O30: after copy A the state with FORMAT_DONE posted and the cancelled writes refused returns to ARMED. -/
theorem formatCopyResponseCarriesFormatOn : Obligations.FormatCopyResponseCarriesFormatOn := by
  intro s o rest copy area outstanding orphan owner formatting set taken cancelled
  have inFlight := State.formatCopyInFlight_eq outstanding orphan owner formatting
  have freed : s.freeSlot = { s with port := taken } := State.freeSlot_eq outstanding
  refine ⟨?_, ?_, ?_⟩
  · rintro rfl
    have base : s.log.copyAddress .a = area.base := by rw [LogController.copyAddress, LogController.base, set]
    simp only [exec, execFormatCopyWriteResponse, inFlight, freed]
    rw [LogController.formatRequest, base]
    rfl
  · rintro rfl
    let w : State := (s.freeSlot.report .formatDone .absent).setEngine .armed
    have epoch : w.log.currentEpoch = s.log.currentEpoch := by
      rw [LogController.currentEpoch_eq w.log nofun,
        LogController.currentEpoch_eq s.log (by rw [formatting]; exact nofun)]
      rfl
    have started := w.cancelAtLoggingStart_eq
    refine ⟨w.cancelAtLoggingStart, w.cancelAtLoggingStart.finishArmed, ?_, State.finishArmed_returns ?_, ?_⟩
    · simp only [exec, execFormatCopyWriteResponse, inFlight]
      rfl
    · rw [started]
      rfl
    · rw [epoch] at started
      refine started.trans ?_
      simp only [w, freed]
      rfl
  · simp only [exec, execFormatCopyWriteResponse, inFlight, State.failFormat_eq, freed]
    rfl

/-! ## What a walk leaves (R63) -/

/-- A walk in a state that does not log grants nothing (R74). -/
theorem State.walk_idle {s : State} (stopped : s.log.engine.logs = false) :
    s.walk = { s with capture := { s.capture with walkOwed := false } } := by
  rw [State.walk, stopped]
  rfl

/-- A walk finds nothing to do while no run waits. -/
theorem State.walk_quiet {s : State} (quiet : ∀ e ∈ s.window, ∀ r ∈ e.runs, r.waiting = false) :
    s.walk = { s with capture := { s.capture with walkOwed := false } } := by
  cases logs : s.log.engine.logs with
  | false => exact s.walk_idle logs
  | true =>
    rw [State.walk, logs]
    refine State.foldl_walkRuns_quiet (s := s.modCapture fun c => { c with walkOwed := false }) fun x _ e found => ?_
    exact quiet e (List.mem_of_find?_eq_some found)

/-- Outside ARMED a walk releases no mark: of the Log Controller it changes the reservation and the log-full indication
alone, and nothing enters the stream (R15). -/
def OnlyReserves (s t : State) : Prop :=
  s.log.engine ≠ .armed → t.stream = s.stream ∧
    t.log = { s.log with reserved := t.log.reserved, logFull := t.log.logFull }

theorem OnlyReserves.refl (s : State) : OnlyReserves s s := fun _ => ⟨rfl, rfl⟩

theorem OnlyReserves.trans {s t u : State} (h : OnlyReserves s t) (k : OnlyReserves t u) : OnlyReserves s u := by
  intro elsewhere
  obtain ⟨stream, log⟩ := h elsewhere
  obtain ⟨stream', log'⟩ := k (by rw [log]; exact elsewhere)
  refine ⟨stream'.trans stream, log'.trans ?_⟩
  rw [log]

theorem State.walk_onlyReserves (s : State) : OnlyReserves s s.walk :=
  State.walk_induction .refl .trans (fun _ _ => ⟨rfl, rfl⟩)
    (fun s allowed elsewhere => absurd (s.recycleAllowed_iff.1 allowed).2.1 elsewhere)
    (fun s e run _ _ _ => ⟨s.grantRun_stream e run, by rw [State.grantRun_log]⟩)
    (fun s e run _ => ⟨s.stallRun_stream e run, by rw [State.stallRun_log]⟩) s

/-! ## The event summary only grows (R170, R174) -/

/-- Every kind in the summary of `q` is in that of `r`. -/
def SummaryGrows (q r : EventQueue) : Prop :=
  ∀ kind, q.summary.getLsbD (kindNumber kind - 1) = true → r.summary.getLsbD (kindNumber kind - 1) = true

theorem SummaryGrows.refl (q : EventQueue) : SummaryGrows q q := fun _ => id

theorem SummaryGrows.trans {q r p : EventQueue} (h : SummaryGrows q r) (k : SummaryGrows r p) : SummaryGrows q p :=
  fun kind => k kind ∘ h kind

theorem SummaryGrows.of_eq {q r : EventQueue} (same : r = q) : SummaryGrows q r := same ▸ .refl q

theorem EventQueue.post_grows (q : EventQueue) (e : Event) : SummaryGrows q (q.post e) := by
  intro kind here
  rw [EventQueue.post_summary, here, Bool.true_or]

/-- The kind posted is in the summary. -/
theorem EventQueue.post_kind (q : EventQueue) (e : Event) :
    (q.post e).summary.getLsbD (kindNumber e.kind - 1) = true := by
  rw [EventQueue.post_summary, decide_eq_true rfl, Bool.or_true]

theorem refusalEvents_grows (epoch : Num) (reason : RefusalReason) (entries : List Entry) (q : EventQueue) :
    SummaryGrows q (refusalEvents epoch reason entries q) := by
  unfold refusalEvents
  induction entries generalizing q with
  | nil => exact .refl q
  | cons e rest ih => exact (q.post_grows _).trans (ih _)

theorem State.compareLowSpace_grows (s : State) : SummaryGrows s.events s.compareLowSpace.events := by
  unfold State.compareLowSpace
  split
  · exact .refl _
  · split
    · split
      · exact .refl _
      · exact s.events.post_grows _
    · exact .refl _

theorem State.postLogFull_grows (s : State) (e : Entry) (run : Run) :
    SummaryGrows s.events (s.postLogFull e run).events := by
  unfold State.postLogFull
  split
  · exact .refl _
  · exact s.events.post_grows _

theorem State.stallRun_grows (s : State) (e : Entry) (run : Run) : SummaryGrows s.events (s.stallRun e run).events := by
  unfold State.stallRun
  split <;> exact s.postLogFull_grows e run

theorem State.walk_grows (s : State) : SummaryGrows s.events s.walk.events :=
  State.walk_induction (R := fun s t => SummaryGrows s.events t.events) (fun s => .refl s.events) .trans
    (fun s => .refl s.events) (fun s _ => ((s.dropMarks 1).compareLowSpace_grows).trans (EventQueue.post_grows _ _))
    (fun s e run _ _ => .of_eq (s.grantRun_events e run)) State.stallRun_grows s

/-! ## What the latches do (R33, R43, R165) -/

/-- `t` differs from `s` at most in what the latches and the walk of a return to ARMED may change. -/
def ReturnFrame (s t : State) : Prop :=
  t = { s with
    stream := t.stream, port := { s.port with bypass := t.port.bypass }
    host := { s.host with offered := t.host.offered }, log := t.log, rollback := t.rollback, events := t.events
    window := t.window, staging := { s.staging with runSlots := t.staging.runSlots }
    capture := { s.capture with walkOwed := t.capture.walkOwed } }

theorem ReturnFrame.trans {s t u : State} (h : ReturnFrame s t) (k : ReturnFrame t u) : ReturnFrame s u := by
  unfold ReturnFrame at *
  generalize u.stream = i, u.port.bypass = b, u.host.offered = o, u.log = l, u.rollback = c, u.events = e, u.window = w,
    u.staging.runSlots = r, u.capture.walkOwed = d at *
  rw [k, h]

theorem ReturnFrame.of_walkFrame {s t : State} (h : WalkFrame s t) : ReturnFrame s t := by
  unfold WalkFrame at h
  generalize t.window = w, t.capture.walkOwed = o, t.staging.runSlots = r, t.stream = i, t.log.marks = m,
    t.log.tail = p, t.log.generation = g, t.log.reserved = v, t.log.lowSpace = l, t.log.logFull = f, t.events = e at h
  subst h
  rfl

theorem WalkFrame.rollback {s t : State} (h : WalkFrame s t) : t.rollback = s.rollback := by
  unfold WalkFrame at h
  rw [h]

theorem WalkFrame.engine {s t : State} (h : WalkFrame s t) : t.log.engine = s.log.engine := by
  unfold WalkFrame at h
  rw [h]

theorem State.acceptRollback_returnFrame (s : State) (target : Mark) : ReturnFrame s (s.acceptRollback target) := by
  rw [State.acceptRollback, State.refreshPorts_eq, State.refuseEntries_eq]
  rfl

/-- Acceptance of a rollback posts REFUSED events alone (R105). -/
theorem State.acceptRollback_grows (s : State) (target : Mark) :
    SummaryGrows s.events (s.acceptRollback target).events := by
  rw [State.acceptRollback, State.refreshPorts_eq, State.refuseEntries_eq]
  exact refusalEvents_grows _ _ _ _

/-- Acceptance of a rollback sets the cursor to its target (R104). -/
theorem State.acceptRollback_rollback (s : State) (target : Mark) :
    (s.acceptRollback target).rollback = some { target := target.epoch, applied := 0, replay := none } := by
  simp [State.acceptRollback]

section
variable {s : State}

/-- A latched fault is acted on as a rollback of depth 0, a latched checkpoint is dropped, and the walk grants nothing. -/
theorem State.finishArmed_fault {newest : Mark} (fault : s.log.faultLatch = true)
    (marks : s.log.marks.getLast? = some newest) :
    s.finishArmed =
      (let v := ((s.setFaultLatch false).acceptRollback newest).dropCheckpointLatch
      { v with capture := { v.capture with walkOwed := false } }) := by
  have acted : s.actOnLatches = ((s.setFaultLatch false).acceptRollback newest).dropCheckpointLatch := by
    rw [State.actOnLatches, if_pos fault, State.acceptFaultRollback_some (s := s.setFaultLatch false) marks]
  rw [State.finishArmed, acted]
  refine State.walk_idle ?_
  rw [State.dropCheckpointLatch_eq, State.acceptRollback_log]
  rfl

/-- Without a latched fault the latched checkpoint is accepted (R43). -/
theorem State.finishArmed_checkpoint (fault : s.log.faultLatch = false) (latch : s.log.checkpointLatch = true) :
    s.finishArmed = (s.setCheckpointLatch false).acceptCheckpoint.walk := by
  rw [State.finishArmed, State.actOnLatches, fault, latch]
  rfl

/-- Without latches only the walk is made. -/
theorem State.finishArmed_clear (fault : s.log.faultLatch = false) (latch : s.log.checkpointLatch = false) :
    s.finishArmed = s.walk := by
  rw [State.finishArmed, State.actOnLatches, fault, latch]
  rfl

end

theorem State.dropCheckpointLatch_grows (s : State) : SummaryGrows s.events s.dropCheckpointLatch.events := by
  unfold State.dropCheckpointLatch
  split
  · exact s.events.post_grows _
  · exact .refl _

/-- What a return to ARMED with a newest mark leaves as it is, and that it takes no kind out of the summary. -/
theorem State.finishArmed_frame {s : State} {newest : Mark} (marks : s.log.marks.getLast? = some newest) :
    ReturnFrame s s.finishArmed ∧ SummaryGrows s.events s.finishArmed.events := by
  cases fault : s.log.faultLatch with
  | true =>
    rw [State.finishArmed_fault fault marks]
    have dropped : ReturnFrame ((s.setFaultLatch false).acceptRollback newest)
        ((s.setFaultLatch false).acceptRollback newest).dropCheckpointLatch := by
      rw [State.dropCheckpointLatch_eq]
      rfl
    have accepted := (s.setFaultLatch false).acceptRollback_returnFrame newest
    refine ⟨?_, ((s.setFaultLatch false).acceptRollback_grows newest).trans (State.dropCheckpointLatch_grows _)⟩
    exact (ReturnFrame.trans (t := s.setFaultLatch false) rfl accepted).trans (dropped.trans rfl)
  | false =>
    cases latch : s.log.checkpointLatch with
    | true =>
      rw [State.finishArmed_checkpoint fault latch]
      let v := (s.setCheckpointLatch false).acceptCheckpoint
      exact ⟨ReturnFrame.trans (t := v) rfl (.of_walkFrame v.walk_walkFrame), v.walk_grows⟩
    | false =>
      rw [State.finishArmed_clear fault latch]
      exact ⟨.of_walkFrame s.walk_walkFrame, s.walk_grows⟩

/-- Settles O44: the end of an attach is a return to ARMED of the state with the cancelled writes refused
(`cancelAtLoggingStart_eq`); the end of a release is one whose latches act as `finishArmed_fault`, `finishArmed_checkpoint`
and `finishArmed_clear` say. -/
theorem returnToArmedCancelsAndActsOnLatches : Obligations.ReturnToArmedCancelsAndActsOnLatches := by
  constructor
  · intro s o rest copy behind c outstanding orphan owner stream others scan cancelled epoch
    let taken : State := { s with port := { s.port with outstanding := rest }, stream := behind }
    let w : State := (((taken.setEngine .armed).report .attachDone
      (.attach taken.recordsFound taken.log.marks.length)).withScan none).restartTimer
    have answer := exec_headerWriteResponse_finishes outstanding orphan owner stream others
    have found : taken.recordsFound = c.found := by
      have here : taken.scan = some c := scan
      rw [State.recordsFound, here]
    have epoch_eq (l : LogController) (armed : l.engine = .armed) (marks : l.marks = s.log.marks) :
        l.currentEpoch = epoch := by
      rw [LogController.currentEpoch_eq l (by rw [armed]; exact nofun), marks]
    have started := w.cancelAtLoggingStart_eq
    refine ⟨w.cancelAtLoggingStart, w.cancelAtLoggingStart.finishArmed, answer, State.finishArmed_returns ?_, ?_⟩
    · rw [started]
      rfl
    · have events : w.events = s.events.post
          { kind := .attachDone, epoch := epoch, address := none, requester := none,
            detail := .attach c.found s.log.marks.length } := by
        rw [← found]
        exact congrArg (fun n => s.events.post
          { kind := .attachDone, epoch := n, address := none, requester := none,
            detail := .attach taken.recordsFound s.log.marks.length }) (epoch_eq (taken.setEngine .armed).log rfl rfl)
      rw [epoch_eq w.log rfl rfl, events] at started
      exact started
  · intro s o rest copy behind newest outstanding orphan owner stream others marks
    let taken : State := { s with port := { s.port with outstanding := rest }, stream := behind }
    let v : State := (taken.report .releaseDone (.number (oldestEpoch s.log.marks))).setEngine .armed
    have answer : exec (.headerWriteResponse .okay) s = .next v.finishArmed :=
      exec_headerWriteResponse_finishes outstanding orphan owner stream others
    have ⟨frame, grows⟩ := State.finishArmed_frame (s := v) marks
    refine ⟨v.finishArmed, answer, frame, grows .releaseDone (EventQueue.post_kind _ _), fun fault => ?_,
      fun fault latch => ?_, fun fault latch => ?_⟩
    · rw [State.finishArmed_fault (s := v) fault marks, State.dropCheckpointLatch_eq]
      refine ⟨State.acceptRollback_stream _ _, rfl, ?_, State.acceptRollback_rollback _ _, fun latched => ?_⟩
      · exact congrArg (fun l : LogController => { l with checkpointLatch := false }) (State.acceptRollback_log _ _)
      · have set : ((v.setFaultLatch false).acceptRollback newest).log.checkpointLatch = true := by
          rw [State.acceptRollback_log]
          exact latched
        dsimp only
        rw [if_pos set]
        exact EventQueue.post_kind _ _
    · rw [State.finishArmed_checkpoint (s := v) fault latch]
      obtain ⟨stream, log⟩ := (v.setCheckpointLatch false).acceptCheckpoint.walk_onlyReserves nofun
      exact ⟨stream, (State.walk_walkFrame _).rollback, log⟩
    · rw [State.finishArmed_clear (s := v) fault latch]
      refine ⟨v.walk_walkFrame.engine, v.walk_walkFrame.rollback, fun quiet => ?_⟩
      rw [State.walk_quiet (s := v) quiet]
      rfl

end Sys2Proof.Machine
end

/-! # DISCARD (O39) -/

section
-- One proof after another: the threads of many at once outgrow the check's memory limit.
set_option Elab.async false
namespace Sys2Proof.Machine

/-- A committed entry is not HELD, and an entry is HELD for one cause (R84, R94). -/
theorem Entry.heldFor_rollback_eq_false {e : Entry} (other : e.committed = true ∨ e.heldFor .freeze = true) :
    e.heldFor .rollback = false := by
  cases phase : e.phase <;> simp_all [Entry.committed, Entry.heldFor]

/-- An entry at DISCARD acceptance: an uncommitted one is restarted under the new tag, a logged write's capture is
abandoned, and a wait for the rollback ends (R47 step 5). -/
theorem State.restartUncommitted_window (s : State) (epoch : Num) :
    (s.restartUncommitted epoch).window = s.window.map fun e =>
      if e.committed then e
      else if e.isLoggedWrite then
        { e with
          epoch := epoch, waits := { hit := none, own := none }, runs := abandonRuns e.runs
          phase := if e.heldFor .freeze then e.phase else .ordered }
      else { e with epoch := epoch, phase := if e.heldFor .rollback then .ordered else e.phase } := by
  have entries : (s.restartUncommitted epoch).window =
      (((s.abandonCaptures fun e => !e.committed && e.isLoggedWrite).window.map fun e =>
        if !e.committed then e.restart epoch else e).map fun e =>
          if e.heldFor .rollback then e.toPhase .ordered else e) := rfl
  rw [entries, State.abandonCaptures_eq, List.map_map, List.map_map]
  refine List.map_congr_left fun e _ => ?_
  rw [Function.comp_apply, Function.comp_apply]
  cases committed : e.committed with
  | true => simp [committed, Entry.heldFor_rollback_eq_false (.inl committed)]
  | false =>
    cases write : e.isLoggedWrite with
    | true =>
      have committed' : e.abandon.committed = false := committed
      have write' : e.abandon.isLoggedWrite = true := write
      have held : e.abandon.heldFor .freeze = e.heldFor .freeze := rfl
      simp only [Bool.not_false, Bool.and_self, if_true, committed', Entry.restart, write', held]
      cases frozen : e.heldFor .freeze with
      | true =>
        have elsewhere := Entry.heldFor_rollback_eq_false (.inr frozen)
        exact if_neg fun here => Bool.noConfusion (elsewhere.symm.trans here)
      | false => rfl
    | false =>
      have restarted : e.restart epoch = { e with epoch := epoch } := by rw [Entry.restart, write]; rfl
      have held : Entry.heldFor { e with epoch := epoch } .rollback = e.heldFor .rollback := rfl
      simp only [committed, Bool.not_false, Bool.and_false, if_true, Bool.false_eq_true, if_false, restarted, held]
      cases e.heldFor .rollback <;> rfl

/-- What the restart of the uncommitted entries may change. -/
theorem State.restartUncommitted_eq (s : State) (epoch : Num) :
    s.restartUncommitted epoch = { s with
      log := { s.log with reserved := (s.restartUncommitted epoch).log.reserved }
      capture := { s.capture with walkOwed := (s.restartUncommitted epoch).capture.walkOwed }
      staging := { s.staging with runSlots := (s.restartUncommitted epoch).staging.runSlots }
      window := (s.restartUncommitted epoch).window } := by
  rw [State.restartUncommitted, State.abandonCaptures_eq]
  rfl

/-- The state of an accepted DISCARD before its header write is asked for (R47 steps 1 to 7). -/
def State.dropEpochs (s : State) : State :=
  ((((s.withRollback none).modLog LogController.discarded).clearCaptureSet).restartUncommitted
    s.log.nextEpoch).compareLowSpace.oweWalk

/-- A low-space comparison and a walk signal (R12, R13). -/
theorem State.compareLowSpace_oweWalk_eq (s : State) :
    s.compareLowSpace.oweWalk = { s with
      log := { s.log with lowSpace := s.compareLowSpace.log.lowSpace }
      events := s.compareLowSpace.events
      capture := { s.capture with walkOwed := true } } :=
  State.eq_of_blocks (log := s.compareLowSpace_log) (capture := by simp [State.oweWalk])

/-- What an accepted DISCARD makes of the log, the Capture Set and the window (R47). -/
theorem State.dropEpochs_eq (s : State) : ∃ reserved lowSpace events runSlots,
    s.dropEpochs = { s with
      rollback := none
      log := { s.log.discarded with reserved := reserved, lowSpace := lowSpace }
      events := events
      window := (s.restartUncommitted s.log.nextEpoch).window
      staging := { s.staging with runSlots := runSlots }
      capture := { s.capture with set := [], walkOwed := true } } := by
  let opened : State := ((s.withRollback none).modLog LogController.discarded).clearCaptureSet
  have restarted := opened.restartUncommitted_eq s.log.nextEpoch
  have window : (opened.restartUncommitted s.log.nextEpoch).window = (s.restartUncommitted s.log.nextEpoch).window := by
    rw [State.restartUncommitted_window, State.restartUncommitted_window]
    rfl
  rw [window] at restarted
  exact ⟨_, _, _, _, (State.compareLowSpace_oweWalk_eq _).trans (congrArg (fun x : State => { x with
    log := { x.log with lowSpace := s.dropEpochs.log.lowSpace }, events := s.dropEpochs.events
    capture := { x.capture with walkOwed := true } }) restarted)⟩

theorem EngineState.takesDiscard_of_mem {x : EngineState} (mem : x ∈ [EngineState.armed, .halted, .logFault]) :
    x.takesDiscard = true := by
  rcases List.mem_cons.1 mem with rfl | mem
  · rfl
  · rcases List.mem_pair.1 mem with rfl | rfl <;> rfl

/-- Settles O39: `dropEpochs_eq` says what DISCARD makes of the log and the window; the header write is then placed, or
waits for room. -/
theorem discardOpensAFreshEpoch : Obligations.DiscardOpensAFreshEpoch := by
  intro s running mem opened
  let taken : State := s.respond .started []
  have answer : exec .discard s = .next ((taken.dropEpochs.askHeader .discard).setEngine .updating) := by
    simp only [exec, execDiscard, State.onFrame_eq running, if_pos (EngineState.takesDiscard_of_mem mem)]
    rfl
  obtain ⟨reserved, lowSpace, events, runSlots, dropped⟩ := taken.dropEpochs_eq
  rw [State.restartUncommitted_window] at dropped
  by_cases room : headerWrites s.stream < 8
  · rw [State.askHeader_room taken.dropEpochs _ (by rw [dropped]; exact room), dropped] at answer
    exact ⟨_, answer, rfl, rfl, fun _ => ⟨_, rfl, rfl, rfl, rfl⟩, fun full => absurd room (Nat.not_lt.2 full), rfl⟩
  · rw [State.askHeader_full taken.dropEpochs _ (by rw [dropped]; exact Nat.not_lt.1 room), dropped] at answer
    exact ⟨_, answer, rfl, rfl, fun here => absurd here room, fun _ => ⟨rfl, rfl, rfl⟩, rfl⟩

end Sys2Proof.Machine
end

/-! # Acceptance of a host request (O58) -/

section
-- One proof after another: the threads of many at once outgrow the check's memory limit.
set_option Elab.async false
namespace Sys2Proof.Machine

/-! ## The region of an address (R79) -/

/-- The region is valid and holds the address (R78, R79). -/
def Region.Contains (g : Region) (address : Num) : Prop :=
  g.valid = true ∧ g.base.toNat ≤ address.toNat ∧ address.toNat < g.base.toNat + g.size

/-- A search over all indices finds the first one. -/
theorem findSome?_finRange {β : Type} {n : Nat} {f : Fin n → Option β} {i : Fin n} {y : β}
    (earlier : ∀ j < i, f j = none) (found : f i = some y) : (List.finRange n).findSome? f = some y := by
  have inside : i.val < (List.finRange n).length := by simp
  have split : List.finRange n = (List.finRange n).take i ++ i :: (List.finRange n).drop (i + 1) := by
    conv_lhs => rw [← List.take_append_drop i.val (List.finRange n), List.drop_eq_getElem_cons inside]
    simp
  rw [split]
  refine findSome?_behind (fun j mem => earlier j ?_) found
  obtain ⟨k, before, rfl⟩ := List.mem_take_iff_getElem.1 mem
  have before : k < i.val := (lt_min_iff.1 before).1
  simpa [Fin.lt_def] using before

section
variable (s : State) (address : Num)

theorem State.lookupRegion_eq_some {i : Fin 16} (here : s.regions[i].Contains address)
    (earlier : ∀ j : Fin 16, j < i → ¬s.regions[j].Contains address) :
    s.lookupRegion address = some (i, s.regions[i]) := by
  refine findSome?_finRange (i := i) (fun j before => ?_) ?_
  · have outside := earlier j before
    simp only [Region.Contains] at outside
    simp only [Bool.and_eq_true, decide_eq_true_eq, if_neg outside]
  · obtain ⟨valid, inside⟩ := here
    simp only [valid, inside, and_self, decide_true, Bool.and_self, if_true]

theorem State.lookupRegion_eq_none (outside : ∀ i : Fin 16, ¬s.regions[i].Contains address) :
    s.lookupRegion address = none := by
  refine List.findSome?_eq_none_iff.2 fun i _ => ?_
  have outside := outside i
  simp only [Region.Contains] at outside
  simp only [Bool.and_eq_true, decide_eq_true_eq, if_neg outside]

end

/-! ## The new entry -/

theorem HostRequest.wellFormed_iff (r : HostRequest) :
    HostRequest.wellFormed r = true ↔ 1 ≤ HostRequest.length r ∧ HostRequest.length r ≤ 128 ∧
      r.address.toNat % 128 + HostRequest.length r ≤ 128 := decide_eq_true_iff

theorem EngineState.rollsBack_iff (x : EngineState) :
    x.rollsBack = true ↔ x = .quiescing ∨ x = .rollingBack ∨ x = .halted := by
  cases x <;> simp [EngineState.rollsBack]

/-- The tag given at acceptance (R31). -/
theorem State.tagAtAcceptance_eq (s : State) :
    s.tagAtAcceptance =
      if s.log.engine = .detached ∨ s.log.engine = .formatting ∨ s.log.engine = .scanning then 0
      else if s.log.engine = .checkpointing then s.log.reservedEpoch.getD s.log.currentEpoch
      else s.log.currentEpoch := by
  rw [State.tagAtAcceptance]
  refine if_congr (EngineState.unattached_iff _) rfl ?_
  split
  · next working reserved => rw [if_pos working, reserved]; rfl
  · next other =>
    split
    · next working =>
      cases reserved : s.log.reservedEpoch with
      | none => rfl
      | some epoch => exact (other epoch working reserved).elim
    · rfl

section
variable {s : State} {r : HostRequest}

theorem State.mayAccept_iff :
    s.mayAccept r = true ↔ s.window.length < 8 ∧ ¬∃ e ∈ s.window, e.requester = r.requester ∧ e.tag = r.tag := by
  simp only [State.mayAccept, Bool.and_eq_true, decide_eq_true_eq, Bool.not_eq_true', ← Bool.not_eq_true,
    List.any_eq_true, Entry.hasKey, beq_iff_eq]
  rfl

/-- A well-formed request has the snapshot of the region that holds its address (R79). -/
theorem State.snapshotFor_eq (wellFormed : HostRequest.wellFormed r = true) :
    s.snapshotFor r = (s.lookupRegion r.address).map fun found =>
      { index := found.1, mode := found.2.mode, mask := found.2.mask } := if_pos wellFormed

theorem permissionRefused_iff (snap : Snapshot) :
    permissionRefused r (some snap) = true ↔
      HostRequest.kind r = .write ∧ snap.mask.getLsbD r.requester.val = false := by
  simp [permissionRefused]

/-! ## The first phase (R85) -/

/-- A malformed request is DONE with ERROR (R75). -/
theorem State.takeRequest_malformed (malformed : HostRequest.wellFormed r = false) :
    s.takeRequest r = { s with
      window := s.window ++ [(s.newEntry r).finish .error []]
      events := s.events.post
        { kind := .dataError, epoch := s.log.currentEpoch, address := some r.address, requester := some r.requester,
          detail := .dataError .malformed } } := by
  rw [State.takeRequest, malformed]
  rfl

/-- A WRITE without permission is DONE with REFUSED (R80). -/
theorem State.takeRequest_denied (wellFormed : HostRequest.wellFormed r = true)
    (denied : permissionRefused r (s.snapshotFor r) = true) :
    s.takeRequest r = { s with
      window := s.window ++ [(s.newEntry r).finish .refused []]
      events := s.events.post
        { kind := .refused, epoch := s.log.currentEpoch, address := some r.address, requester := some r.requester,
          detail := .refusal .permission } } := by
  have denied : permissionRefused r (s.newEntry r).snapshot = true := denied
  simp only [State.takeRequest, wellFormed, Bool.not_true, Bool.false_eq_true, if_false, denied, if_true]
  rfl

/-- A logged write in LOG_FAULT is DONE with REFUSED (R85). -/
theorem State.takeRequest_faulted (wellFormed : HostRequest.wellFormed r = true)
    (permitted : permissionRefused r (s.snapshotFor r) = false) (write : (s.newEntry r).isLoggedWrite = true)
    (faulted : s.log.engine = .logFault) :
    s.takeRequest r = { s with
      window := s.window ++ [(s.newEntry r).finish .refused []]
      events := s.events.post
        { kind := .refused, epoch := s.log.currentEpoch, address := some r.address, requester := some r.requester,
          detail := .refusal .logFault } } := by
  have permitted : permissionRefused r (s.newEntry r).snapshot = false := permitted
  simp only [State.takeRequest, wellFormed, Bool.not_true, Bool.false_eq_true, if_false, permitted, write, faulted,
    beq_self_eq_true, Bool.and_self, if_true]
  rfl

/-- Any other request is HELD if it is logged during a rollback, and else ORDERED (R85). -/
theorem State.takeRequest_accepted (wellFormed : HostRequest.wellFormed r = true)
    (permitted : permissionRefused r (s.snapshotFor r) = false)
    (sound : ¬((s.newEntry r).isLoggedWrite = true ∧ s.log.engine = .logFault)) :
    s.takeRequest r = { s with
      window := s.window ++ [
        if (s.newEntry r).isLogged = true ∧ s.log.engine.rollsBack = true then
          (s.newEntry r).hold .rollback s.newTimer
        else s.newEntry r] } := by
  have permitted : permissionRefused r (s.newEntry r).snapshot = false := permitted
  simp only [State.takeRequest, wellFormed, Bool.not_true, Bool.false_eq_true, if_false, permitted, Bool.and_eq_true,
    beq_iff_eq, sound]
  split <;> rfl

end

/-- The presented request is accepted if it may be, and else stays presented (R76). -/
theorem exec_hostRequestAccept {s : State} {arriving : Option HostRequest} {r : HostRequest} {behind : List HostRequest}
    (running : s.rstLow = false) (presented : s.host.channel ++ arriving.toList = r :: behind) :
    exec (.hostRequestAccept arriving) s =
      if s.mayAccept r then .next (State.takeRequest { s with host := { s.host with channel := behind } } r).refreshPorts
      else .next { s with host := { s.host with channel := r :: behind } } := by
  have running' : (s.arrive arriving).rstLow = false := running
  have presented' : (s.arrive arriving).host.channel = r :: behind := presented
  have arrived : s.arrive arriving = { s with host := { s.host with channel := r :: behind } } := by
    rw [← presented]
    rfl
  simp only [exec, execHostRequestAccept, running', presented', Bool.false_eq_true, if_false]
  rw [arrived]
  rfl

/-- Settles O58: the request's region gives its snapshot, and the tests of `takeRequest` its first phase. -/
theorem hostRequestBecomesAWindowEntry : Obligations.HostRequestBecomesAWindowEntry := by
  intro s arriving r behind running presented command inUse length payload kind wellFormed contains tag granules entry
    accepted event
  have formed : HostRequest.wellFormed r = true ↔ wellFormed := HostRequest.wellFormed_iff r
  let v : State := { s with host := { s.host with channel := behind } }
  refine ⟨fun waits => ?_, fun room free => ?_⟩
  · refine (exec_hostRequestAccept running presented).trans (if_neg ?_)
    rw [State.mayAccept_iff]
    exact fun ⟨room, free⟩ => waits.elim (Nat.not_le.2 room) free
  have answer : exec command s = .next (v.takeRequest r).refreshPorts :=
    (exec_hostRequestAccept running presented).trans (if_pos (State.mayAccept_iff.2 ⟨room, free⟩))
  have accept {e : Entry} {events : EventQueue}
      (taken : v.takeRequest r = { v with window := s.window ++ [e], events := events }) : accepted e events := by
    rw [taken, State.refreshPorts_eq] at answer
    exact ⟨_, answer, rfl, rfl, rfl, rfl⟩
  have tagged : v.tagAtAcceptance = tag := v.tagAtAcceptance_eq
  have made (fine : wellFormed) {snapshot : Option Snapshot} (region : v.snapshotFor r = snapshot) :
      v.newEntry r = entry snapshot .ordered := by
    have touched : HostRequest.granules r = granules := if_pos (formed.2 fine)
    rw [State.newEntry, tagged, touched, region]
    rfl
  refine ⟨fun malformed => ?_, fun fine outside => ?_, fun i fine here earlier => ?_⟩
  · have malformed : HostRequest.wellFormed r = false := by rwa [← Bool.not_eq_true, formed]
    have unnamed : v.snapshotFor r = none := if_neg (by simp [malformed])
    have untouched : HostRequest.granules r = [] := if_neg (by simp [malformed])
    have taken := State.takeRequest_malformed (s := v) malformed
    rw [State.newEntry, tagged, unnamed, untouched] at taken
    exact accept taken
  · have region : v.snapshotFor r = none := by
      rw [State.snapshotFor_eq (formed.2 fine), State.lookupRegion_eq_none v r.address outside]
      rfl
    have permitted : permissionRefused r (v.snapshotFor r) = false := by rw [region, permissionRefused, Bool.and_false]
    have taken := State.takeRequest_accepted (s := v) (formed.2 fine) permitted (by rw [made fine region]; exact nofun)
    rw [made fine region, if_neg (by exact nofun)] at taken
    exact accept taken
  · intro snapshot denied faulted rollsBack
    have region : v.snapshotFor r = snapshot := by
      rw [State.snapshotFor_eq (formed.2 fine), State.lookupRegion_eq_some v r.address here earlier]
      rfl
    have refused : permissionRefused r (v.snapshotFor r) = true ↔ denied := by
      rw [region]
      exact permissionRefused_iff _
    have logged : (v.newEntry r).isLogged = true ↔ s.regions[i].mode = .logged := by
      rw [made fine region]
      exact beq_iff_eq
    have write : (v.newEntry r).isLoggedWrite = true ∧ s.log.engine = .logFault ↔ faulted := by
      rw [Entry.isLoggedWrite, Bool.and_eq_true, logged, made fine region]
      have kind_eq : (entry snapshot .ordered).isWrite = true ↔ kind = .write := beq_iff_eq
      rw [kind_eq]
      exact ⟨fun ⟨⟨l, w⟩, f⟩ => ⟨w, l, f⟩, fun ⟨w, l, f⟩ => ⟨⟨l, w⟩, f⟩⟩
    have held : (v.newEntry r).isLogged = true ∧ s.log.engine.rollsBack = true ↔
        s.regions[i].mode = .logged ∧ rollsBack := by
      rw [logged, EngineState.rollsBack_iff]
    have permitted (no : ¬denied) : permissionRefused r (v.snapshotFor r) = false :=
      Bool.eq_false_iff.2 fun yes => no (refused.1 yes)
    refine ⟨fun yes => ?_, fun no fault => ?_, fun no mode rolls => ?_, fun no sound calm => ?_⟩
    · have taken := State.takeRequest_denied (s := v) (formed.2 fine) (refused.2 yes)
      rw [made fine region] at taken
      exact accept taken
    · have ⟨loggedWrite, inFault⟩ := write.2 fault
      have taken := State.takeRequest_faulted (s := v) (formed.2 fine) (permitted no) loggedWrite inFault
      rw [made fine region] at taken
      exact accept taken
    · have sound : ¬((v.newEntry r).isLoggedWrite = true ∧ v.log.engine = .logFault) := by
        rintro ⟨_, inFault⟩
        have inFault : s.log.engine = .logFault := inFault
        rcases rolls with h | h | h <;> cases inFault.symm.trans h
      have taken := State.takeRequest_accepted (s := v) (formed.2 fine) (permitted no) sound
      rw [if_pos (held.2 ⟨mode, rolls⟩), made fine region] at taken
      exact accept taken
    · have taken := State.takeRequest_accepted (s := v) (formed.2 fine) (permitted no) fun here => sound (write.1 here)
      rw [if_neg fun here => calm (held.1 here), made fine region] at taken
      exact accept taken

end Sys2Proof.Machine
end


/-! # The Capture Set takes a new entry (O47) -/

section
-- One proof after another: the threads of many at once outgrow the check's memory limit.
set_option Elab.async false
namespace Sys2Proof.Machine

/-- The search of R55: the entry of a granule. -/
def findGranule (set : List CaptureEntry) (g : Num) : Option CaptureEntry := set.find? fun c => c.granule == g

section
variable {set : List CaptureEntry} {granule : Num} (seq : Num)

theorem findGranule_eq_none {g : Num} : findGranule set g = none ↔ g ∉ set.map CaptureEntry.granule := by
  simp [findGranule, List.find?_eq_none]

/-- The entries that stay beside the new one (R56). -/
def keptBeside (set : List CaptureEntry) (granule : Num) : List CaptureEntry :=
  let others := set.filter fun c => c.granule != granule
  if others.length < 64 then others else others.tail

theorem insertCapture_eq (set : List CaptureEntry) (granule seq : Num) :
    insertCapture set granule seq = keptBeside set granule ++ [{ granule := granule, seq := seq }] := rfl

theorem keptBeside_sublist : (keptBeside set granule).Sublist (set.filter fun c => c.granule != granule) := by
  unfold keptBeside
  dsimp only
  split
  · exact .refl _
  · exact List.tail_sublist _

theorem not_mem_keptBeside : granule ∉ (keptBeside set granule).map CaptureEntry.granule := by
  intro mem
  obtain ⟨c, mem, same⟩ := List.mem_map.1 mem
  simpa [same] using List.of_mem_filter (keptBeside_sublist.subset mem)

theorem keptBeside_length (few : set.length ≤ 64) : (keptBeside set granule).length < 64 := by
  have fewer := List.length_filter_le (fun c : CaptureEntry => c.granule != granule) set
  unfold keptBeside
  dsimp only
  split
  · assumption
  · rw [List.length_tail]
    omega

theorem insertCapture_length (few : set.length ≤ 64) : (insertCapture set granule seq).length ≤ 64 := by
  rw [insertCapture_eq, List.length_append]
  exact keptBeside_length few

theorem insertCapture_nodup (distinct : (set.map CaptureEntry.granule).Nodup) :
    ((insertCapture set granule seq).map CaptureEntry.granule).Nodup := by
  rw [insertCapture_eq, List.map_append]
  refine List.Nodup.append ?_ (List.nodup_singleton _) ?_
  · exact distinct.sublist ((keptBeside_sublist.trans List.filter_sublist).map _)
  · exact List.disjoint_singleton.2 not_mem_keptBeside

theorem findGranule_insertCapture_same :
    findGranule (insertCapture set granule seq) granule = some { granule := granule, seq := seq } := by
  have missing : findGranule (keptBeside set granule) granule = none := findGranule_eq_none.2 not_mem_keptBeside
  rw [findGranule] at missing
  simp [insertCapture_eq, findGranule, List.find?_append, missing]

theorem findGranule_insertCapture_other {g : Num} (other : g ≠ granule) :
    findGranule (insertCapture set granule seq) g = findGranule (keptBeside set granule) g := by
  simp [insertCapture_eq, findGranule, List.find?_append, other.symm]

/-- Taking the granule's own entry out hides no other granule. -/
theorem findGranule_filter {g : Num} (other : g ≠ granule) :
    findGranule (set.filter fun c => c.granule != granule) g = findGranule set g := by
  rw [findGranule, List.find?_filter]
  refine congrArg (set.find? ·) (funext fun c => ?_)
  by_cases here : c.granule = g <;> simp [here, other]

/-- With room, or with an entry of the granule to take out, the Set loses no other entry (R56). -/
theorem keptBeside_room (room : set.length < 64 ∨ set.length ≤ 64 ∧ (findGranule set granule).isSome = true) :
    keptBeside set granule = set.filter fun c => c.granule != granule := by
  refine if_pos ?_
  rcases room with room | ⟨few, found⟩
  · exact (List.length_filter_le _ _).trans_lt room
  · obtain ⟨c, found⟩ := Option.isSome_iff_exists.1 found
    have removed : ¬(c.granule != granule) = true := by simpa using List.find?_some found
    exact (List.length_filter_lt_length_iff_exists.2 ⟨c, List.mem_of_find?_eq_some found, removed⟩).trans_le few

/-- A full Set without the granule loses its oldest entry (R56). -/
theorem keptBeside_full {oldest : CaptureEntry} {others : List CaptureEntry} (full : (oldest :: others).length = 64)
    (missing : findGranule (oldest :: others) granule = none) : keptBeside (oldest :: others) granule = others := by
  have all : (oldest :: others).filter (fun c => c.granule != granule) = oldest :: others :=
    List.filter_eq_self.2 fun c mem => by simpa using List.find?_eq_none.1 missing c mem
  unfold keptBeside
  rw [all]
  exact if_neg (Nat.not_lt.2 full.ge)

end

/-- Settles O47: the new entry is put behind those of `keptBeside`, which are all others unless the Set is full. -/
theorem captureSetTakesTheNewEntry : Obligations.CaptureSetTakesTheNewEntry := by
  intro set granule seq few distinct after found
  refine ⟨insertCapture_length seq few, insertCapture_nodup seq distinct, ?_, findGranule_insertCapture_same seq,
    fun room g other => ?_, fun oldest others whole full missing => ⟨?_, fun g other younger => ?_⟩⟩
  · exact List.getLast?_concat
  · refine (findGranule_insertCapture_other seq other).trans ?_
    rw [keptBeside_room (room.imp id fun here => ⟨few, here⟩), findGranule_filter other]
    rfl
  · subst whole
    have other : oldest.granule ≠ granule := by simpa using List.find?_eq_none.1 missing oldest List.mem_cons_self
    refine (findGranule_insertCapture_other seq other).trans ?_
    rw [keptBeside_full full missing]
    exact findGranule_eq_none.2 (List.nodup_cons.1 distinct).1
  · subst whole
    refine (findGranule_insertCapture_other seq other).trans ?_
    rw [keptBeside_full full missing]
    exact (List.find?_cons_of_neg (by simpa using younger.symm)).symm

end Sys2Proof.Machine
end

/-! # What every step keeps of the Capture Set (O7)

Most operations leave the Capture Unit, or at least its Set, as it is; those that clear the Set or take an entry into it
keep its law. -/

section
-- One proof after another: the threads of many at once outgrow the check's memory limit.
set_option Elab.async false
namespace Sys2Proof.Machine

variable {s t : State}

/-! ## Operations that leave the Capture Unit -/

@[simp] theorem State.postDropped_capture (s : State) (dropped : Option Num) :
    (s.postDropped dropped).capture = s.capture := by
  cases dropped <;> rfl

theorem State.completeAttach_capture (s : State) (c : ScanCursor) : (s.completeAttach c).capture = s.capture := by
  unfold State.completeAttach
  split
  · rfl
  · simp

theorem State.acceptWalked_capture (s : State) (c : ScanCursor) (h : RecordHeader) :
    (s.acceptWalked c h).capture = s.capture := s.postDropped_capture _

theorem State.failAttach_capture (s : State) (address : Option Num) (reason : AttachFailure) :
    (s.failAttach address reason).capture = s.capture := State.dropFaultLatch_capture _ _

theorem State.failFormat_capture (s : State) (copy : CopyName) : (s.failFormat copy).capture = s.capture :=
  State.dropFaultLatch_capture _ _

theorem State.chooseAndWalk_capture (s : State) (c : ScanCursor) (bytes : List Byte) :
    (s.chooseAndWalk c bytes).capture = s.capture := by
  unfold State.chooseAndWalk
  split
  · exact s.failAttach_capture _ _
  · unfold State.startWalk
    split <;> rfl

theorem State.copyReturned_capture (s : State) (c : ScanCursor) (copy : CopyName) (response : MemResponse) :
    (s.copyReturned c copy response).capture = s.capture := by
  unfold State.copyReturned
  split
  · exact s.failAttach_capture _ _
  · rfl
  · exact s.chooseAndWalk_capture _ _

theorem State.headerWalked_capture (s : State) (c : ScanCursor) (bytes : List Byte) :
    (s.headerWalked c bytes).capture = s.capture := by
  unfold State.headerWalked
  dsimp only
  split
  · split
    · rfl
    · split
      · exact s.acceptWalked_capture _ _
      · exact s.completeAttach_capture _
  · exact s.completeAttach_capture _

theorem State.recordWalked_capture (s : State) (c : ScanCursor) (h : RecordHeader) (bytes : List Byte) :
    (s.recordWalked c h bytes).capture = s.capture := by
  unfold State.recordWalked
  split
  · exact s.acceptWalked_capture _ _
  · exact s.completeAttach_capture _

theorem State.checkpointStrobe_capture (s : State) (source : CheckpointSource) :
    (s.checkpointStrobe source).capture = s.capture := by
  unfold State.checkpointStrobe
  split <;> rfl

theorem State.timerAction_capture (s : State) : s.timerAction.capture = s.capture := by
  unfold State.timerAction
  split
  · rfl
  · exact s.checkpointStrobe_capture _
  · rfl

theorem State.thaw_capture (s : State) : s.thaw.capture = s.capture := by
  unfold State.thaw
  split <;> rfl

theorem State.takeRequest_capture (s : State) (r : HostRequest) : (s.takeRequest r).capture = s.capture := by
  unfold State.takeRequest
  dsimp only
  repeat' split
  all_goals rfl

theorem State.postDataError_capture (s : State) (e : Entry) (response : MemResponse) :
    (s.postDataError e response).capture = s.capture := by
  cases response <;> rfl

theorem State.grant_capture (s : State) (g : Grant) : (s.grant g).capture = s.capture := by
  cases g <;> rfl

theorem State.haltAt_capture (s : State) (cursor : RollbackCursor) (replay : Replay) :
    (s.haltAt cursor replay).capture = s.capture := by
  unfold State.haltAt
  split <;> rfl

theorem State.readRecord_capture (s : State) (cursor : RollbackCursor) (replay : Replay) :
    (s.readRecord cursor replay).capture = s.capture := by
  by_cases none : replay.back = 0
  · rw [State.readRecord_stops none]
    rfl
  · rw [State.readRecord_reads none]

/-! ## Operations that leave the Set -/

theorem WalkFrame.set (frame : WalkFrame s t) : t.capture.set = s.capture.set := congrArg (·.capture.set) frame

@[simp] theorem State.walk_set (s : State) : s.walk.capture.set = s.capture.set := s.walk_walkFrame.set

@[simp] theorem State.oweWalkIf_set (s : State) (due : Bool) : (s.oweWalkIf due).capture.set = s.capture.set := by
  rw [State.oweWalkIf_eq]

@[simp] theorem State.abandonCaptures_set (s : State) (p : Entry → Bool) :
    (s.abandonCaptures p).capture.set = s.capture.set := by
  rw [State.abandonCaptures_eq]

@[simp] theorem State.refuseEntries_set (s : State) (p : Entry → Bool) (reason : RefusalReason) :
    (s.refuseEntries p reason).capture.set = s.capture.set := by
  rw [State.refuseEntries_eq]

theorem State.acceptRollback_set (s : State) (target : Mark) :
    (s.acceptRollback target).capture.set = s.capture.set := by
  simp [State.acceptRollback]

theorem State.acceptFaultRollback_set (s : State) : s.acceptFaultRollback.capture.set = s.capture.set := by
  unfold State.acceptFaultRollback
  split
  · rfl
  · exact s.acceptRollback_set _

theorem State.finishArmed_set (s : State) : s.finishArmed.capture.set = s.capture.set := by
  rw [State.finishArmed, State.walk_set]
  unfold State.actOnLatches
  split
  · rw [State.dropCheckpointLatch_capture, State.acceptFaultRollback_set, State.setFaultLatch_capture]
  · split <;> rfl

theorem State.cancelAtLoggingStart_set (s : State) : s.cancelAtLoggingStart.capture.set = s.capture.set := by
  simp [State.cancelAtLoggingStart]

theorem State.finishFormat_set (s : State) : s.finishFormat.capture.set = s.capture.set :=
  (State.finishArmed_set _).trans (State.cancelAtLoggingStart_set _)

theorem State.finishHeader_set (s : State) (purpose : HeaderPurpose) :
    (s.finishHeader purpose).capture.set = s.capture.set := by
  cases purpose with
  | recycle => exact s.walkStalled_walkFrame.set
  | attach => exact (State.finishArmed_set _).trans (State.cancelAtLoggingStart_set _)
  | checkpoint | release | discard | rollback => exact State.finishArmed_set _

theorem State.faultStrobe_set (s : State) : s.faultStrobe.capture.set = s.capture.set := by
  unfold State.faultStrobe State.faultRollback
  dsimp only
  split
  · rfl
  · split
    · rfl
    · rfl
    · split
      case h_1 => exact State.acceptFaultRollback_set _
      all_goals rfl

theorem State.leaveOrdered_set (s : State) (e : Entry) : (s.leaveOrdered e).capture.set = s.capture.set := by
  have decided : (if s.log.freeze then s.holdEntry e .freeze else s.decideCapture e).capture.set = s.capture.set := by
    split <;> rfl
  unfold State.leaveOrdered State.leaveLoggedWrite
  split
  · split
    · rfl
    · split
      case h_1 | h_2 | h_3 => exact decided
      case h_11 => exact s.refuseEntries_set _ _
      all_goals rfl
  · split <;> rfl

theorem State.acceptRelease_set (s : State) (n : Nat) : (s.acceptRelease n).capture.set = s.capture.set := by
  simp [State.acceptRelease]

theorem State.setPolicies_set (s : State) (p : Policy) : (s.setPolicies p).capture.set = s.capture.set := by
  have walked (u : State) (unchanged : Bool) : (u.walkUnless unchanged).capture.set = u.capture.set := by
    cases unchanged
    · exact u.walk_set
    · rfl
  have compared (u : State) (unchanged : Bool) : (u.compareUnless unchanged).capture = u.capture := by
    cases unchanged
    · exact u.compareLowSpace_capture
    · rfl
  rw [State.setPolicies, compared, walked]
  rfl

/-! ## Operations that clear the Set, or take entries into it -/

theorem CaptureSetLaw.of_set (law : CaptureSetLaw s) (same : t.capture.set = s.capture.set) : CaptureSetLaw t := by
  rw [CaptureSetLaw, same]
  exact law

theorem CaptureSetLaw.of_capture (law : CaptureSetLaw s) (same : t.capture = s.capture) : CaptureSetLaw t :=
  law.of_set (congrArg CaptureUnit.set same)

theorem CaptureSetLaw.of_cleared (cleared : t.capture.set = []) : CaptureSetLaw t := by
  rw [CaptureSetLaw, cleared]
  exact ⟨Nat.zero_le 64, List.nodup_nil⟩

/-- Every entry of a record keeps the law, so that the record keeps it (R56). -/
theorem insertRun_captureSetLaw (set : List CaptureEntry) (granules : List Num) (seq : Num) (few : set.length ≤ 64)
    (distinct : (set.map CaptureEntry.granule).Nodup) :
    (insertRun set granules seq).length ≤ 64 ∧ ((insertRun set granules seq).map CaptureEntry.granule).Nodup := by
  induction granules generalizing set with
  | nil => exact ⟨few, distinct⟩
  | cons g rest ih => exact ih _ (insertCapture_length seq few) (insertCapture_nodup seq distinct)

theorem State.createRecord_set (s : State) (e : Entry) (run : Run) (poison : Bool) (data : List Byte) :
    ∃ seq, (s.createRecord e run poison data).capture.set = insertRun s.capture.set run.granules seq :=
  ⟨_, by simp [State.createRecord, State.enterRecord]; rfl⟩

theorem CaptureSetLaw.createRecord (law : CaptureSetLaw s) (e : Entry) (run : Run) (poison : Bool) (data : List Byte) :
    CaptureSetLaw (s.createRecord e run poison data) := by
  obtain ⟨few, distinct⟩ := law
  obtain ⟨seq, set⟩ := s.createRecord_set e run poison data
  rw [CaptureSetLaw, set]
  exact insertRun_captureSetLaw _ _ seq few distinct

theorem CaptureSetLaw.createDeferred (law : CaptureSetLaw s) (id : Nat) : CaptureSetLaw (s.createDeferred id) := by
  unfold State.createDeferred
  split
  · split
    · exact law.createRecord _ _ _ _
    · exact law
  · exact law

theorem CaptureSetLaw.createAllDeferred (law : CaptureSetLaw s) : CaptureSetLaw s.createAllDeferred := by
  unfold State.createAllDeferred
  generalize s.deferredRuns = ids
  induction ids generalizing s with
  | nil => exact law
  | cons id rest ih => exact ih (law.createDeferred id)

/-- The boundary clears the Set, and the deferred runs' records enter it (R38, R39). -/
theorem boundary_captureSetLaw (s : State) (reserved : Num) : CaptureSetLaw (s.boundary reserved) :=
  CaptureSetLaw.createAllDeferred (.of_cleared (State.abandonCaptures_set _ _))

theorem enterLogFault_captureSetLaw (s : State) (item : StreamItem) (failed : StreamItem → Bool) :
    CaptureSetLaw (s.enterLogFault item failed) :=
  .of_cleared (by simp [State.enterLogFault, State.oweWalk, State.clearCaptureSet])

theorem acceptDiscard_captureSetLaw (s : State) : CaptureSetLaw s.acceptDiscard :=
  .of_cleared (by simp [State.acceptDiscard, State.oweWalk, State.restartUncommitted, State.clearCaptureSet])

theorem finishDetach_captureSetLaw (s : State) : CaptureSetLaw s.finishDetach :=
  .of_cleared (by simp [State.finishDetach, State.dropFaultDetached, State.clearCaptureSet])

theorem completeRollback_captureSetLaw (s : State) (cursor : RollbackCursor) (replay : Replay) :
    CaptureSetLaw (s.completeRollback cursor replay) :=
  .of_cleared (by simp [State.completeRollback, State.clearCaptureSet])

theorem CaptureSetLaw.advanceReplay (law : CaptureSetLaw s) (cursor : RollbackCursor) (replay : Replay) :
    CaptureSetLaw (s.advanceReplay cursor replay) := by
  unfold State.advanceReplay
  split
  · exact law
  · dsimp only
    split
    · exact completeRollback_captureSetLaw _ _ _
    · exact law.of_capture (s.readRecord_capture _ _)

theorem CaptureSetLaw.goOn (law : CaptureSetLaw s) (cursor : RollbackCursor) (replay : Replay) :
    CaptureSetLaw (s.goOn cursor replay) := by
  unfold State.goOn
  split
  · exact law
  · exact CaptureSetLaw.advanceReplay (s := s.withRollback (some cursor)) law _ _

theorem CaptureSetLaw.moveBack (law : CaptureSetLaw s) (cursor : RollbackCursor) (replay : Replay) (h : RecordHeader)
    (position : Nat) : CaptureSetLaw (s.moveBack cursor replay h position) := by
  have moved : CaptureSetLaw (s.moveLog h position) := law.of_set (by simp [State.moveLog, State.oweWalk])
  exact moved.goOn _ _

theorem CaptureSetLaw.recordRead (law : CaptureSetLaw s) (cursor : RollbackCursor) (replay : Replay)
    (position length : Nat) (bytes : List Byte) : CaptureSetLaw (s.recordRead cursor replay position length bytes) := by
  unfold State.recordRead State.applyRecord
  split
  · exact law
  · split
    · exact law
    · split
      · split
        · exact CaptureSetLaw.moveBack (s := s.post _ _ _ _) law _ _ _ _
        · exact law
      · exact law.moveBack _ _ _ _

theorem CaptureSetLaw.restored (law : CaptureSetLaw s) (cursor : RollbackCursor) (replay : Replay) (h : RecordHeader)
    (position : Nat) (result : WriteResult) : CaptureSetLaw (s.restored cursor replay h position result) := by
  cases result with
  | okay => exact law.moveBack _ _ _ _
  | error => exact CaptureSetLaw.moveBack (s := s.post _ _ _ _) law _ _ _ _

/-! ## Every command -/

/-- Whatever state an outcome leads to is under the law. -/
def LeadsToLaw (o : Host.Outcome State Fault Refusal) : Prop := ∀ t, o = .next t → CaptureSetLaw t

theorem LeadsToLaw.next (law : CaptureSetLaw t) : LeadsToLaw (.next t) := by
  rintro _ ⟨⟩
  exact law

/-- A link command taken from its frame. -/
theorem LeadsToLaw.onFrame {take : State → State} (law : CaptureSetLaw s) (taken : CaptureSetLaw (take s)) :
    LeadsToLaw (.next (s.onFrame take)) := by
  refine .next ?_
  unfold State.onFrame
  split
  · exact law
  · exact taken

section
variable (law : CaptureSetLaw s)
include law

theorem execHostRequestAccept_captureSetLaw (arriving : Option HostRequest) :
    LeadsToLaw (execHostRequestAccept arriving s) := by
  unfold execHostRequestAccept
  dsimp only
  split
  · exact .next law
  · split
    · exact .next law
    · split
      · exact .next (law.of_capture (by simp [State.takeRequest_capture, State.arrive]))
      · exact .next law

theorem execCaptureDecision_captureSetLaw : LeadsToLaw (execCaptureDecision s) := by
  unfold execCaptureDecision
  split
  · exact .next law
  · exact .next (law.of_set (by simp [State.leaveOrdered_set]))

theorem execCaptureWalk_captureSetLaw : LeadsToLaw (execCaptureWalk s) := by
  refine .next ?_
  split
  · exact law.of_set s.walk_set
  · exact law

theorem execHeaderWritePlacement_captureSetLaw : LeadsToLaw (execHeaderWritePlacement s) := by
  unfold execHeaderWritePlacement
  split
  · exact .next law
  · split <;> exact .next law

theorem execMemoryGrant_captureSetLaw : LeadsToLaw (execMemoryGrant s) := by
  unfold execMemoryGrant
  split
  · exact .next law
  · split
    · exact .next law
    · exact .next (law.of_capture (s.grant_capture _))

theorem execCaptureReadResponse_captureSetLaw (response : MemResponse) :
    LeadsToLaw (execCaptureReadResponse response s) := by
  unfold execCaptureReadResponse
  split
  · split
    · split
      · split
        · exact .next law
        · exact .next (CaptureSetLaw.createRecord (s := s.freeSlot) law _ _ _ _)
      · exact .next law
    · exact .next law
  · exact .next law

theorem execAbandonedReadReturn_captureSetLaw (response : MemResponse) :
    LeadsToLaw (execAbandonedReadReturn response s) := by
  unfold execAbandonedReadReturn
  split
  · split <;> exact .next law
  · exact .next law

theorem execRecordWriteResponse_captureSetLaw (result : WriteResult) :
    LeadsToLaw (execRecordWriteResponse result s) := by
  unfold execRecordWriteResponse
  split
  · split
    · split
      · exact .next law
      · exact .next law
      · exact .next (enterLogFault_captureSetLaw _ _ _)
    · exact .next law
  · exact .next law

theorem execHeaderWriteResponse_captureSetLaw (result : WriteResult) :
    LeadsToLaw (execHeaderWriteResponse result s) := by
  unfold execHeaderWriteResponse
  split
  · split
    · split
      · exact .next (law.of_set (State.finishHeader_set _ _))
      · exact .next law
      · exact .next (enterLogFault_captureSetLaw _ _ _)
    · exact .next law
  · exact .next law

theorem execCheckpointBoundary_captureSetLaw : LeadsToLaw (execCheckpointBoundary s) := by
  unfold execCheckpointBoundary
  split
  · exact .next law
  · exact .next (boundary_captureSetLaw _ _)

theorem execQuiesceComplete_captureSetLaw : LeadsToLaw (execQuiesceComplete s) := by
  unfold execQuiesceComplete
  split
  · exact .next law
  · split
    · exact .next (CaptureSetLaw.advanceReplay (s := s.setEngine .rollingBack) law _ _)
    · exact .next law

theorem execRollbackRecordReadResponse_captureSetLaw (response : MemResponse) :
    LeadsToLaw (execRollbackRecordReadResponse response s) := by
  unfold execRollbackRecordReadResponse
  split
  · exact .next law
  · split
    · split
      · split
        · exact .next law
        · exact .next (CaptureSetLaw.recordRead (s := s.freeSlot) law _ _ _ _ _)
      · exact .next law
    · exact .next law

theorem execRestoreWriteResponse_captureSetLaw (result : WriteResult) :
    LeadsToLaw (execRestoreWriteResponse result s) := by
  unfold execRestoreWriteResponse
  split
  · exact .next law
  · split
    · split
      · exact .next (CaptureSetLaw.restored (s := s.freeSlot) law _ _ _ _ _)
      · exact .next law
    · exact .next law

theorem execFormatCopyWriteResponse_captureSetLaw (result : WriteResult) :
    LeadsToLaw (execFormatCopyWriteResponse result s) := by
  unfold execFormatCopyWriteResponse
  split
  · exact .next law
  · exact .next (law.of_capture (State.failFormat_capture _ _))
  · exact .next law
  · exact .next (law.of_set (State.finishFormat_set _))

theorem execAttachHeaderReadResponse_captureSetLaw (response : MemResponse) :
    LeadsToLaw (execAttachHeaderReadResponse response s) := by
  unfold execAttachHeaderReadResponse
  split
  · exact .next law
  · split
    · exact .next (law.of_capture (State.copyReturned_capture _ _ _ _))
    · split
      · exact .next (law.of_capture (State.copyReturned_capture _ _ _ _))
      · exact .next law

theorem execWalkHeaderReadResponse_captureSetLaw (response : MemResponse) :
    LeadsToLaw (execWalkHeaderReadResponse response s) := by
  unfold execWalkHeaderReadResponse
  split
  · exact .next law
  · split
    · split
      · exact .next (law.of_capture (State.completeAttach_capture _ _))
      · exact .next (law.of_capture (State.headerWalked_capture _ _ _))
    · exact .next law

theorem execWalkRecordReadResponse_captureSetLaw (response : MemResponse) :
    LeadsToLaw (execWalkRecordReadResponse response s) := by
  unfold execWalkRecordReadResponse
  split
  · exact .next law
  · split
    · exact .next law
    · split
      · split
        · exact .next (law.of_capture (State.completeAttach_capture _ _))
        · exact .next (law.of_capture (State.recordWalked_capture _ _ _ _))
      · exact .next law

theorem execHostAccessResponse_captureSetLaw (response : MemResponse) :
    LeadsToLaw (execHostAccessResponse response s) := by
  unfold execHostAccessResponse
  split
  · split
    · split
      · exact .next (law.of_capture (by simp [State.postDataError_capture]))
      · exact .next law
    · exact .next law
  · exact .next law

theorem execOrphanResponse_captureSetLaw (response : MemResponse) : LeadsToLaw (execOrphanResponse response s) := by
  unfold execOrphanResponse
  split
  · exact .next law
  · split <;> exact .next law

theorem execDiscardedItemResponse_captureSetLaw (result : WriteResult) :
    LeadsToLaw (execDiscardedItemResponse result s) := by
  unfold execDiscardedItemResponse
  split <;> exact .next law

theorem execDetachComplete_captureSetLaw : LeadsToLaw (execDetachComplete s) := by
  refine .next ?_
  split
  · exact finishDetach_captureSetLaw s
  · exact law

theorem execResponseDelivery_captureSetLaw : LeadsToLaw (execResponseDelivery s) := by
  unfold execResponseDelivery
  split
  · exact .next law
  · exact .next (law.of_capture (State.refreshPorts_capture _))

theorem execHoldTimeout_captureSetLaw : LeadsToLaw (execHoldTimeout s) := by
  unfold execHoldTimeout
  split
  · exact .next law
  · exact .next (law.of_set (by simp))

theorem execEpochTimer_captureSetLaw : LeadsToLaw (execEpochTimer s) := by
  unfold execEpochTimer
  split
  · exact .next law
  · exact .next (law.of_capture (State.timerAction_capture _))

theorem execCkptStrobe_captureSetLaw : LeadsToLaw (execCkptStrobe s) := by
  refine .next ?_
  split
  · exact law
  · exact law.of_capture (s.checkpointStrobe_capture _)

theorem execFaultStrobe_captureSetLaw : LeadsToLaw (execFaultStrobe s) := by
  refine .next ?_
  split
  · exact law
  · exact law.of_set s.faultStrobe_set

theorem startInDetached_captureSetLaw {accept : State → State}
    (accepted : CaptureSetLaw (accept (s.respond .started []))) :
    CaptureSetLaw (s.startInDetached accept) := by
  unfold State.startInDetached
  split
  · split
    · exact law
    · exact accepted
  · exact law

theorem execRollback_captureSetLaw (depth : Byte) : LeadsToLaw (execRollback depth s) := by
  refine .onFrame law ?_
  split
  · split
    · exact law.of_set (State.acceptRollback_set _ _)
    · exact law
  · exact law

theorem execRelease_captureSetLaw (n : Byte) : LeadsToLaw (execRelease n s) := by
  refine .onFrame law ?_
  split
  · split
    · exact law.of_set (State.acceptRelease_set _ _)
    · exact law
  · exact law

theorem execDiscard_captureSetLaw : LeadsToLaw (execDiscard s) := by
  refine .onFrame law ?_
  split
  · exact acceptDiscard_captureSetLaw _
  · exact law

theorem execHalt_captureSetLaw : LeadsToLaw (execHalt s) := by
  refine .onFrame law ?_
  split
  · dsimp only
    split
    · exact law
    · exact law.of_capture (State.haltAt_capture _ _ _)
  · exact law

theorem execResume_captureSetLaw : LeadsToLaw (execResume s) := by
  refine .onFrame law ?_
  split
  · dsimp only
    split
    · exact law
    · exact CaptureSetLaw.advanceReplay (s := (s.respond .done []).setEngine .rollingBack) law _ _
  · exact law

theorem execSetRegion_captureSetLaw (index : Byte) (base size : Num) (mode mask : Byte) :
    LeadsToLaw (execSetRegion index base size mode mask s) := by
  refine .onFrame law ?_
  split
  · exact law
  · split
    · exact law
    · split
      · exact law
      · split <;> exact law

theorem execClearRegion_captureSetLaw (index : Byte) : LeadsToLaw (execClearRegion index s) := by
  refine .onFrame law ?_
  split
  · exact law
  · split
    · exact law
    · split <;> exact law

theorem execSetLog_captureSetLaw (base size : Num) : LeadsToLaw (execSetLog base size s) := by
  refine .onFrame law ?_
  split
  · split
    · exact law
    · split <;> exact law
  · exact law

theorem execSetPolicy_captureSetLaw (logFull faultAction : Byte) (holdLimit : BitVec 16) (threshold : Byte)
    (prescaler : BitVec 16) (reference : Num) (timerAction : Byte) :
    LeadsToLaw (execSetPolicy logFull faultAction holdLimit threshold prescaler reference timerAction s) := by
  refine .onFrame law ?_
  split
  · exact law
  · exact law.of_set (State.setPolicies_set _ _)

/-- Every reset empties the Set (R146). -/
theorem execRst_captureSetLaw (edge : RstEdge) : LeadsToLaw (execRst edge s) := by
  cases edge with
  | falls => exact .next (.of_cleared rfl)
  | rises => exact .next law

/-- What a command does keeps the law, one line for each row of the opcode table. -/
theorem exec_captureSetLaw (c : Instr) : LeadsToLaw (exec c s) := by
  cases c with
  | powerOn => exact .next (.of_cleared rfl)
  | rst edge => exact execRst_captureSetLaw law edge
  | hostRequestAccept arriving => exact execHostRequestAccept_captureSetLaw law arriving
  | captureDecision => exact execCaptureDecision_captureSetLaw law
  | captureWalk => exact execCaptureWalk_captureSetLaw law
  | headerWritePlacement => exact execHeaderWritePlacement_captureSetLaw law
  | memoryGrant => exact execMemoryGrant_captureSetLaw law
  | captureReadResponse response => exact execCaptureReadResponse_captureSetLaw law response
  | abandonedReadReturn response => exact execAbandonedReadReturn_captureSetLaw law response
  | recordWriteResponse result => exact execRecordWriteResponse_captureSetLaw law result
  | headerWriteResponse result => exact execHeaderWriteResponse_captureSetLaw law result
  | discardedItemResponse result => exact execDiscardedItemResponse_captureSetLaw law result
  | checkpointBoundary => exact execCheckpointBoundary_captureSetLaw law
  | quiesceComplete => exact execQuiesceComplete_captureSetLaw law
  | rollbackRecordReadResponse response => exact execRollbackRecordReadResponse_captureSetLaw law response
  | restoreWriteResponse result => exact execRestoreWriteResponse_captureSetLaw law result
  | formatCopyWriteResponse result => exact execFormatCopyWriteResponse_captureSetLaw law result
  | attachHeaderReadResponse response => exact execAttachHeaderReadResponse_captureSetLaw law response
  | walkHeaderReadResponse response => exact execWalkHeaderReadResponse_captureSetLaw law response
  | walkRecordReadResponse response => exact execWalkRecordReadResponse_captureSetLaw law response
  | hostAccessResponse response => exact execHostAccessResponse_captureSetLaw law response
  | orphanResponse response => exact execOrphanResponse_captureSetLaw law response
  | strayResponse response => exact .next law
  | detachComplete => exact execDetachComplete_captureSetLaw law
  | responseDelivery => exact execResponseDelivery_captureSetLaw law
  | holdTimeout => exact execHoldTimeout_captureSetLaw law
  | epochTimer => exact execEpochTimer_captureSetLaw law
  | ckptStrobe => exact execCkptStrobe_captureSetLaw law
  | faultStrobe => exact execFaultStrobe_captureSetLaw law
  | frameDiscard bits => refine .onFrame law ?_; split <;> exact law
  | nop => exact .onFrame law law
  | readStatus => exact .onFrame law law
  | setRegion index base size mode mask => exact execSetRegion_captureSetLaw law index base size mode mask
  | clearRegion index => exact execClearRegion_captureSetLaw law index
  | readRegion index => refine .onFrame law ?_; split <;> exact law
  | setLog base size => exact execSetLog_captureSetLaw law base size
  | format => exact .onFrame law (startInDetached_captureSetLaw law law)
  | attach => exact .onFrame law (startInDetached_captureSetLaw law law)
  | detach => refine .onFrame law ?_; split <;> exact law
  | checkpoint => refine .onFrame law ?_; split <;> exact law
  | release n => exact execRelease_captureSetLaw law n
  | discard => exact execDiscard_captureSetLaw law
  | rollback depth => exact execRollback_captureSetLaw law depth
  | halt => exact execHalt_captureSetLaw law
  | resume => exact execResume_captureSetLaw law
  | freeze => exact .onFrame law law
  | thaw => exact .onFrame law (law.of_capture (State.thaw_capture _))
  | setPolicy logFull faultAction holdLimit threshold prescaler reference timerAction =>
    exact execSetPolicy_captureSetLaw law logFull faultAction holdLimit threshold prescaler reference timerAction
  | readPolicy => exact .onFrame law law
  | readMark index => refine .onFrame law ?_; split <;> exact law
  | popEvent => refine .onFrame law ?_; split <;> exact law
  | clearSummary => exact .onFrame law law
  | restart => exact .onFrame law (.of_cleared rfl)
  | tick => exact .next law

end

/-- Settles O7: an idle step changes nothing, and any other takes a command. -/
theorem everyStepKeepsTheCaptureSetLaw : Obligations.EveryStepKeepsTheCaptureSetLaw := by
  intro s t law stepped
  unfold step at stepped
  split at stepped
  · cases stepped
    exact law
  · next rest _ => exact exec_captureSetLaw (s := s.withPending rest) law _ t stepped

end Sys2Proof.Machine
end

/-! # Acceptance of DETACH (O34) -/

section
-- One proof after another: the threads of many at once outgrow the check's memory limit.
set_option Elab.async false
namespace Sys2Proof.Machine

theorem EngineState.takesDetach_iff (x : EngineState) :
    x.takesDetach = true ↔ x ∈ [EngineState.armed, .halted, .logFault] := by
  cases x <;> decide

/-- Of the runs kept at DETACH none waits, so one is left to record where one reads or is deferred (R72). -/
theorem detachRuns_unrecorded (runs : List Run) :
    (detachRuns runs).any Run.unrecorded = true ↔
      ∃ r ∈ detachRuns runs, r.isReading = true ∨ r.isDeferred = true := by
  rw [List.any_eq_true]
  refine exists_congr fun r => and_congr_right fun mem => ?_
  have granted : r.waiting = false := by simpa using List.of_mem_filter mem
  rw [Run.unrecorded, granted, Bool.false_or, Run.reserves, Bool.or_eq_true]

/-- A logged write at DETACH acceptance, by what is left of its capture (R72). -/
theorem Entry.detach_eq (e : Entry) :
    e.detach =
      if e.heldFor .freeze then { e with phase := .ordered }
      else if e.phase = .capturing ∨ e.heldFor .space then
        { e with
          runs := detachRuns e.runs
          phase :=
            if ∃ r ∈ detachRuns e.runs, r.isReading = true ∨ r.isDeferred = true then .capturing
            else if e.waits.hit = none ∧ e.waits.own = none then .ready
            else .awaitRecord }
      else e := by
  simp only [Entry.detach, Bool.or_eq_true, beq_iff_eq, ← detachRuns_unrecorded, ← WaitList.isEmpty_iff]
  split
  · rfl
  · split
    · split
      · rfl
      · split <;> rfl
    · rfl

/-- An entry that a rollback's end releases is left in ORDERED (R121). -/
theorem Entry.detach_ordered (e : Entry) : (e.toPhase .ordered).detach = e.toPhase .ordered := by
  rw [Entry.detach_eq]
  exact if_neg nofun

/-- What DETACH makes of the state it is accepted in (R72, R121, R143). -/
theorem exec_detach {s : State} (running : s.rstLow = false)
    (mem : s.log.engine ∈ [EngineState.armed, .halted, .logFault]) :
    exec .detach s = .next { s with
      log := { s.log with engine := .detaching }
      rollback := none
      window := (s.window.map fun e => if e.heldFor .rollback then e.toPhase .ordered else e).map fun e =>
        if e.isLoggedWrite then e.detach else e
      link := answered .started [] } := by
  simp only [exec, execDetach, State.onFrame_eq running, if_pos ((EngineState.takesDetach_iff _).2 mem)]
  rfl

/-- Settles O34: `exec_detach` with the two changes of an entry taken together. -/
theorem detachStopsGrantingSpace : Obligations.DetachStopsGrantingSpace := by
  intro s running mem
  rw [exec_detach running mem, List.map_map]
  refine congrArg _ (State.eq_of_blocks (window := List.map_congr_left fun e _ => ?_))
  rw [Function.comp_apply]
  cases held : e.heldFor .rollback with
  | true =>
    simp only [if_true, Entry.detach_ordered, ite_self]
    rfl
  | false =>
    rw [Entry.detach_eq]
    cases write : e.isLoggedWrite with
    | true =>
      simp only [Bool.false_eq_true, if_false, write, if_true, true_and]
      rfl
    | false => simp [write]

end Sys2Proof.Machine
end

/-! # Responses that are ignored (O46) -/

section
-- One proof after another: the threads of many at once outgrow the check's memory limit.
set_option Elab.async false
namespace Sys2Proof.Machine

/-- A response fits if what it brings has the length that the request asks for: none for a WRITE (R149). -/
theorem responseFits_iff (request : MemRequest) (response : MemResponse) :
    responseFits request response = true ↔
      ∀ data, response = .okay data → data.length = if request.kind = .read then request.length else 0 := by
  cases response with
  | error => exact iff_of_true rfl nofun
  | okay data => cases kind : request.kind <;> simp [responseFits, kind]

/-- An abandoned run leaves its slot and its entry, and a walk falls due (R71). -/
theorem State.dropRun_eq (s : State) (id : Nat) :
    s.dropRun id = { s with
      staging := { s.staging with runSlots := s.staging.runSlots.filter fun slot => slot != .run id }
      window := s.window.map fun e => { e with runs := e.runs.filter fun r => r.id != id }
      capture := { s.capture with walkOwed := true } } := rfl

section
variable {s : State} {o : Outstanding} {rest : List Outstanding} {response : MemResponse}

theorem exec_orphanResponse (outstanding : s.port.outstanding = o :: rest) (orphan : o.orphan = true)
    (fits : responseFits o.request response = true) : exec (.orphanResponse response) s = .next s.freeSlot := by
  simp only [exec, execOrphanResponse, outstanding, orphan, fits, Bool.and_self, if_true]

theorem exec_discardedItemResponse (outstanding : s.port.outstanding = o :: rest) (orphan : o.orphan = false)
    (owner : o.owner = .discarded) (result : WriteResult) :
    exec (.discardedItemResponse result) s = .next s.freeSlot := by
  obtain ⟨_, _, _, _⟩ := o
  cases owner
  simp only [exec, execDiscardedItemResponse, State.oldestRequest_eq outstanding orphan]

theorem exec_abandonedReadReturn {id : Nat} {e : Entry} {run : Run} (outstanding : s.port.outstanding = o :: rest)
    (orphan : o.orphan = false) (owner : o.owner = .capture id) (fits : responseFits o.request response = true)
    (found : s.findRun id = some (e, run)) (abandoned : run.condition = .abandoned) :
    exec (.abandonedReadReturn response) s = .next (s.freeSlot.dropRun id) := by
  obtain ⟨_, _, _, _⟩ := o
  cases owner
  have gone : s.runAbandoned id = true := by simp [State.runAbandoned, found, Run.isAbandoned, abandoned]
  simp only [exec, execAbandonedReadReturn, State.oldestRequest_eq outstanding orphan, fits, gone, Bool.and_self, if_true]

end

/-- Settles O46: each response frees the oldest slot, and an abandoned run's read drops the run. -/
theorem ignoredResponsesOnlyFreeTheirSlots : Obligations.IgnoredResponsesOnlyFreeTheirSlots := by
  intro s response
  refine ⟨rfl, ?_⟩
  intro o rest outstanding freed fits
  refine ⟨fun orphan fit => ?_, fun orphan owner result => ?_, fun id e run orphan owner fit found abandoned => ?_⟩
  · rw [exec_orphanResponse outstanding orphan ((responseFits_iff _ _).2 fit), State.freeSlot_eq outstanding]
  · rw [exec_discardedItemResponse outstanding orphan owner, State.freeSlot_eq outstanding]
  · rw [exec_abandonedReadReturn outstanding orphan owner ((responseFits_iff _ _).2 fit) found abandoned,
      State.freeSlot_eq outstanding, State.dropRun_eq]

end Sys2Proof.Machine
end

/-! # What a capture decision finds (O50) -/

section
-- One proof after another: the threads of many at once outgrow the check's memory limit.
set_option Elab.async false
namespace Sys2Proof.Machine

/-! ## Maximal runs (R59) -/

/-- The granules of a group, given as its first granule and their count. -/
def groupGranules (group : Num × Nat) : List Num := (List.range group.2).map fun k => group.1 + num (32 * k)

theorem groupGranules_succ (g : Num) (count : Nat) :
    groupGranules (g, count + 1) = g :: groupGranules (g + 32, count) := by
  have shift (k : Nat) : g + num (32 * (k + 1)) = g + 32 + num (32 * k) := by
    simp only [num]
    bv_omega
  simp [groupGranules, List.range_succ_eq_map, Function.comp_def, shift]
  rfl

/-- A granule joins the first group of the others if it comes just before it, and else stands alone. -/
theorem groupRuns_cons (g : Num) (rest : List Num) :
    (∃ count more, groupRuns rest = (g + 32, count) :: more ∧ groupRuns (g :: rest) = (g, count + 1) :: more) ∨
    groupRuns (g :: rest) = (g, 1) :: groupRuns rest ∧ ∀ next ∈ (groupRuns rest).head?, next.1 ≠ g + 32 := by
  rw [groupRuns]
  split
  · next alone => exact .inr (by simp [alone])
  · next first count more split =>
    by_cases joins : first = g + 32
    · exact .inl ⟨count, more, by rw [split, joins], if_pos joins⟩
    · rw [if_neg joins, split]
      exact .inr ⟨rfl, by simpa using joins⟩

/-- The groups hold the missed granules, in their order. -/
theorem groupRuns_granules (missed : List Num) : (groupRuns missed).flatMap groupGranules = missed := by
  induction missed with
  | nil => rfl
  | cons g rest ih =>
    rcases groupRuns_cons g rest with ⟨count, more, behind, joined⟩ | ⟨alone, _⟩
    · rw [joined, List.flatMap_cons, groupGranules_succ, List.cons_append, ← ih, behind, List.flatMap_cons]
    · rw [alone, List.flatMap_cons, ih, groupGranules_succ]
      rfl

theorem groupRuns_count (missed : List Num) : ∀ group ∈ groupRuns missed, 1 ≤ group.2 := by
  induction missed with
  | nil => exact nofun
  | cons g rest ih =>
    rcases groupRuns_cons g rest with ⟨count, more, behind, joined⟩ | ⟨alone, _⟩
    · rw [joined, List.forall_mem_cons]
      rw [behind, List.forall_mem_cons] at ih
      exact ⟨Nat.le_add_left 1 count, ih.2⟩
    · rw [alone, List.forall_mem_cons]
      exact ⟨le_refl 1, ih⟩

/-- No group begins where the one before it ends: the groups are maximal. -/
theorem groupRuns_maximal (missed : List Num) :
    (groupRuns missed).IsChain fun group next => next.1 ≠ group.1 + num (32 * group.2) := by
  induction missed with
  | nil => exact .nil
  | cons g rest ih =>
    rcases groupRuns_cons g rest with ⟨count, more, behind, joined⟩ | ⟨alone, apart⟩
    · have ends : g + 32 + num (32 * count) = g + num (32 * (count + 1)) := by
        simp only [num]
        bv_omega
      rw [behind, List.isChain_cons] at ih
      rw [joined, List.isChain_cons]
      exact ⟨fun next mem => by rw [← ends]; exact ih.1 next mem, ih.2⟩
    · rw [alone, List.isChain_cons]
      exact ⟨apart, ih⟩

theorem formRuns_groups (id : Nat) (groups : List (Num × Nat)) :
    (formRuns id groups).map (fun r => (r.first, r.count)) = groups := by
  refine List.ext_getElem? fun k => ?_
  rw [formRuns, List.getElem?_map, List.getElem?_mapIdx, Option.map_map]
  exact congrFun Option.map_id _

theorem formRuns_pending (id : Nat) (groups : List (Num × Nat)) : ∀ r ∈ formRuns id groups, r.condition = .pending := by
  intro r mem
  obtain ⟨k, _, rfl⟩ := List.mem_mapIdx.1 mem
  rfl

/-- The runs of missed granules (R59, R62): they hold the granules in order, none is empty, and none could be longer. -/
theorem formRuns_groupRuns (id : Nat) (missed : List Num) :
    (formRuns id (groupRuns missed)).flatMap Run.granules = missed ∧
    (∀ r ∈ formRuns id (groupRuns missed), 1 ≤ r.count ∧ r.condition = .pending) ∧
    (formRuns id (groupRuns missed)).IsChain fun r next => next.first ≠ r.first + num (32 * r.count) := by
  have groups := formRuns_groups id (groupRuns missed)
  refine ⟨?_, fun r mem => ⟨?_, formRuns_pending _ _ r mem⟩, ?_⟩
  · refine Eq.trans ?_ (groupRuns_granules missed)
    rw [← groups, List.flatMap_map, groups]
    rfl
  · refine groupRuns_count missed (r.first, r.count) ?_
    rw [← groups]
    exact List.mem_map_of_mem mem
  · have chain := groupRuns_maximal missed
    rw [← groups, List.isChain_map] at chain
    exact chain

/-! ## The hit wait (R58, R61) -/

theorem keepGreater_eq (held seq : Num) :
    keepGreater (some held) seq = some held ∨ keepGreater (some held) seq = some seq := by
  unfold keepGreater larger
  dsimp only
  split
  · exact .inr rfl
  · exact .inl rfl

/-- Of several numbers one is kept. -/
theorem foldl_keepGreater_mem (held : Num) (seqs : List Num) :
    ∃ q ∈ held :: seqs, seqs.foldl keepGreater (some held) = some q := by
  induction seqs generalizing held with
  | nil => exact ⟨held, List.mem_singleton_self held, rfl⟩
  | cons x rest ih =>
    rw [List.foldl_cons]
    rcases keepGreater_eq held x with kept | kept
    · obtain ⟨q, mem, found⟩ := ih held
      rw [kept]
      exact ⟨q, by grind, found⟩
    · obtain ⟨q, mem, found⟩ := ih x
      rw [kept]
      exact ⟨q, List.mem_cons_of_mem _ mem, found⟩

/-- `q` is the newest of the numbers. -/
def Newest (q : Num) (seqs : List Num) : Prop :=
  q ∈ seqs ∧ ∀ other ∈ seqs, other ≠ q → below other q = true ∧ below q other = false

/-- The newest of two numbers is kept. -/
theorem keepGreater_newest {held seq q : Num} (newest : Newest q [held, seq]) : keepGreater (some held) seq = some q := by
  obtain ⟨mem, others⟩ := newest
  by_cases same : held = seq
  · subst same
    have here : q = held := by simpa using mem
    simp [keepGreater, larger, here]
  · rcases List.mem_pair.1 mem with rfl | rfl
    · have older := (others seq (by simp) (Ne.symm same)).2
      simp [keepGreater, larger, older]
    · have older := (others held (by simp) same).1
      simp [keepGreater, larger, older]

/-- The newest of several numbers is the one kept. -/
theorem foldl_keepGreater_newest {held q : Num} {seqs : List Num} (newest : Newest q (held :: seqs)) :
    seqs.foldl keepGreater (some held) = some q := by
  induction seqs generalizing held with
  | nil => rw [List.mem_singleton.1 newest.1]; rfl
  | cons x rest ih =>
    obtain ⟨mem, others⟩ := newest
    rw [List.foldl_cons]
    by_cases behind : q ∈ rest
    · rcases keepGreater_eq held x with kept | kept
      · rw [kept]
        exact ih ⟨List.mem_cons_of_mem _ behind, fun other here => others other (by grind)⟩
      · rw [kept]
        exact ih ⟨List.mem_cons_of_mem _ behind, fun other here => others other (List.mem_cons_of_mem _ here)⟩
    · have first : q ∈ [held, x] := by grind
      rw [keepGreater_newest ⟨first, fun other here => others other (by grind)⟩]
      exact ih ⟨List.mem_cons_self, fun other here => others other (by grind)⟩

/-- The unpersisted records that hits of an entry name (R58). -/
def State.hitRecords (s : State) (e : Entry) : List Num :=
  if s.missesAll e then []
  else (e.granules.filterMap s.lookupCapture).filter fun seq => !isPersisted s.stream seq

theorem State.mem_hitRecords (s : State) (e : Entry) (q : Num) :
    q ∈ s.hitRecords e ↔
      ¬s.missesAll e = true ∧ isPersisted s.stream q = false ∧ ∃ g ∈ e.granules, s.lookupCapture g = some q := by
  unfold State.hitRecords
  split
  · next all => exact iff_of_false List.not_mem_nil fun ⟨lookups, _⟩ => lookups all
  · next lookups => simp [lookups, and_comm]

theorem State.hitWait_eq (s : State) (e : Entry) : s.hitWait e = (s.hitRecords e).foldl keepGreater none := by
  unfold State.hitWait State.hitRecords
  split
  · rfl
  · rw [List.foldl_filter]
    refine congrArg (fun f => List.foldl f none _) (funext fun held => funext fun seq => ?_)
    cases isPersisted s.stream seq <;> rfl

/-- The hit wait names one of the records hits name, the newest if one is newer than all others, and none if there is
none (R58, R61). -/
theorem State.hitWait_spec (s : State) (e : Entry) :
    (s.hitWait e = none ↔ ∀ q, q ∉ s.hitRecords e) ∧ (∀ q, s.hitWait e = some q → q ∈ s.hitRecords e) ∧
    ∀ q, Newest q (s.hitRecords e) → s.hitWait e = some q := by
  rw [State.hitWait_eq]
  cases s.hitRecords e with
  | nil => exact ⟨iff_of_true rfl fun _ => List.not_mem_nil, nofun, fun _ newest => absurd newest.1 List.not_mem_nil⟩
  | cons held seqs =>
    obtain ⟨kept, mem, found⟩ := foldl_keepGreater_mem held seqs
    have first : (held :: seqs).foldl keepGreater none = some kept := found
    refine ⟨iff_of_false (by rw [first]; exact nofun) fun empty => empty kept mem, fun q found' => ?_, fun q newest =>
      foldl_keepGreater_newest newest⟩
    rw [first] at found'
    exact Option.some.inj found' ▸ mem

end Sys2Proof.Machine
end

/-! # The capture decision (O50) -/

section
-- One proof after another: the threads of many at once outgrow the check's memory limit.
set_option Elab.async false
namespace Sys2Proof.Machine

/-! ## The hazard test (R86) -/

/-- An unfinished entry blocks another with a common granule, unless both read (R86). -/
def Entry.Blocks (a b : Entry) : Prop :=
  a.isDone = false ∧ (∃ g, g ∈ a.granules ∧ g ∈ b.granules) ∧ (a.kind = .write ∨ b.kind = .write)

theorem hazardClear_iff (older : List Entry) (e : Entry) :
    hazardClear older e = true ↔ ∀ a ∈ older, ¬a.Blocks e := by
  have overlap (a : Entry) : e.overlaps a = true ↔ ∃ g, g ∈ a.granules ∧ g ∈ e.granules := by
    simp [Entry.overlaps, and_comm]
  have reads (a : Entry) : (!a.isWrite && !e.isWrite) = true ↔ ¬(a.kind = .write ∨ e.kind = .write) := by
    simp [Entry.isWrite]
  rw [hazardClear, List.all_eq_true]
  refine forall₂_congr fun a _ => ?_
  rw [Bool.or_eq_true, Bool.or_eq_true, reads, Bool.not_eq_true', ← Bool.not_eq_true (e.overlaps a), overlap,
    Entry.Blocks, ← Bool.not_eq_true, not_and_or, not_and_or, not_not, or_assoc]

/-- The oldest entry in ORDERED that nothing blocks is the one to leave. -/
theorem nextToLeave_eq_some {seen older behind : List Entry} {e : Entry} (ordered : e.phase = .ordered)
    (free : ∀ a ∈ seen ++ older, ¬a.Blocks e)
    (earlier : ∀ before x after, older = before ++ x :: after → x.phase = .ordered →
      ∃ a ∈ seen ++ before, a.Blocks x) :
    nextToLeave seen (older ++ e :: behind) = some e := by
  induction older generalizing seen with
  | nil =>
    rw [List.append_nil] at free
    exact if_pos (by rw [Entry.isOrdered, ordered, (hazardClear_iff _ _).2 free]; rfl)
  | cons x rest ih =>
    rw [List.cons_append, nextToLeave, if_neg, ih]
    · simpa using free
    · intro before y after split here
      simpa using earlier (x :: before) y after (by rw [split]; rfl) here
    · rw [Bool.and_eq_true, hazardClear_iff]
      rintro ⟨here, clear⟩
      obtain ⟨a, mem, blocks⟩ := earlier [] x rest rfl (by simpa [Entry.isOrdered] using here)
      exact clear a (by simpa using mem) blocks

/-! ## The entry leaves ORDERED (R87) -/

section
variable {s : State} {older behind : List Entry} {e : Entry}

theorem State.sendTo_eq (law : WindowLaw s) (window : s.window = older ++ e :: behind) (phase : Phase) :
    s.sendTo e phase = { s with window := older ++ { e with phase := phase } :: behind } :=
  State.eq_of_blocks (s := s.updateEntry e.requester e.tag fun e => e.toPhase phase) (window := law.updateEntry window _)

theorem State.leaveOrdered_other (other : e.isLoggedWrite = false) :
    s.leaveOrdered e =
      if e.isLogged && s.log.engine.rollsBack then s.holdEntry e .rollback else s.sendTo e .ready := by
  rw [State.leaveOrdered, other]
  rfl

theorem State.leaveOrdered_write (write : e.isLoggedWrite = true) : s.leaveOrdered e = s.leaveLoggedWrite e :=
  if_pos write

theorem State.leaveLoggedWrite_untagged (untagged : e.epoch = 0) : s.leaveLoggedWrite e = s.sendTo e .ready :=
  if_pos untagged

/-- Without a log, and while it is given up, a logged write goes unlogged (R53). -/
theorem State.leaveLoggedWrite_unlogged
    (engine : s.log.engine ∈ [EngineState.detached, .formatting, .scanning, .detaching]) :
    s.leaveLoggedWrite e = s.sendTo e .ready := by
  unfold State.leaveLoggedWrite
  generalize s.log.engine = x at *
  split
  · rfl
  · cases x with
    | detached | formatting | scanning | detaching => rfl
    | _ => simp at engine

theorem State.leaveLoggedWrite_rollsBack (tagged : e.epoch ≠ 0) (rolls : s.log.engine.rollsBack = true) :
    s.leaveLoggedWrite e = s.holdEntry e .rollback := by
  rw [State.leaveLoggedWrite, if_neg tagged]
  generalize s.log.engine = x at *
  cases x with
  | quiescing | rollingBack | halted => rfl
  | _ => cases rolls

theorem State.leaveLoggedWrite_logs (tagged : e.epoch ≠ 0) (logs : s.log.engine.logs = true) :
    s.leaveLoggedWrite e = if s.log.freeze then s.holdEntry e .freeze else s.decideCapture e := by
  rw [State.leaveLoggedWrite, if_neg tagged]
  generalize s.log.engine = x at *
  cases x with
  | armed | checkpointing | updating => rfl
  | _ => cases logs

theorem State.leaveLoggedWrite_logFault (tagged : e.epoch ≠ 0) (fault : s.log.engine = .logFault) :
    s.leaveLoggedWrite e = s.refuseEntries (fun o => o.hasKey e.requester e.tag) .logFault := by
  rw [State.leaveLoggedWrite, if_neg tagged, fault]

/-- The entries of a key are the one entry. -/
theorem WindowLaw.filter_key (law : WindowLaw s) (window : s.window = older ++ e :: behind) :
    s.window.filter (fun o => o.hasKey e.requester e.tag) = [e] := by
  have others {l : List Entry} (sub : l ⊆ older ++ behind) : l.filter (fun o => o.hasKey e.requester e.tag) = [] :=
    List.filter_eq_nil_iff.2 fun x mem => by simpa [Entry.hasKey] using law.other_key window x (sub mem)
  have key : e.hasKey e.requester e.tag = true := by simp [Entry.hasKey]
  rw [window, List.filter_append, List.filter_cons_of_pos (by exact key), others (List.subset_append_left _ _),
    others (List.subset_append_right _ _)]
  rfl

/-- The refusal of the entry of a key (R70, R98). -/
theorem State.refuseKey_eq (law : WindowLaw s) (window : s.window = older ++ e :: behind) (reason : RefusalReason) :
    ∃ reserved runSlots walkOwed,
      s.refuseEntries (fun o => o.hasKey e.requester e.tag) reason = { s with
        window := older ++ { e with
          phase := .done .refused [], runs := abandonRuns e.runs, waits := { hit := none, own := none },
          payload := [] } :: behind
        log := { s.log with reserved := reserved }
        staging := { s.staging with runSlots := runSlots }
        capture := { s.capture with walkOwed := walkOwed }
        events := s.events.post
          { kind := .refused, epoch := s.log.currentEpoch, address := some e.address, requester := some e.requester,
            detail := .refusal reason } } := by
  have finished : (s.window.map fun o => if o.hasKey e.requester e.tag then o.abandon else o).map (fun o =>
      if o.hasKey e.requester e.tag then o.finish .refused [] else o) =
        older ++ e.abandon.finish .refused [] :: behind := by
    rw [← law.updateEntry window fun o => o.abandon.finish .refused [], State.updateEntry, State.mapEntries,
      State.withWindow_window, List.map_map]
    refine List.map_congr_left fun o _ => ?_
    have key : o.abandon.hasKey e.requester e.tag = o.hasKey e.requester e.tag := rfl
    rw [Function.comp_apply]
    cases here : o.hasKey e.requester e.tag with
    | true => simp only [if_true, key, here]
    | false => simp only [Bool.false_eq_true, if_false, here]
  have refused := s.refuseEntries_eq (fun o => o.hasKey e.requester e.tag) reason
  rw [finished, law.filter_key window] at refused
  exact ⟨_, _, _, refused⟩

theorem State.missesAll_eq (s : State) (e : Entry) : s.missesAll e = decide (s.log.reservedEpoch = some e.epoch) := by
  rw [Bool.eq_iff_iff, State.missesAll, beq_iff_eq, decide_eq_true_iff]

/-- What a capture decision makes of the entry and the Capture Unit (R58 to R60). -/
theorem State.decideCapture_eq (law : WindowLaw s) (window : s.window = older ++ e :: behind) :
    s.decideCapture e = { s with
      window := older ++
        e.decide (formRuns s.capture.nextRunId (groupRuns (s.missedGranules e))) (s.hitWait e) :: behind
      capture := { s.capture with
        nextRunId := s.capture.nextRunId + (groupRuns (s.missedGranules e)).length
        walkOwed := s.capture.walkOwed || !(groupRuns (s.missedGranules e)).isEmpty } } :=
  State.eq_of_blocks (window := law.updateEntry window _) (capture := rfl)

theorem Entry.decide_eq (e : Entry) (runs : List Run) (hit : Option Num) :
    e.decide runs hit = { e with
      runs := e.runs ++ runs, waits := { hit := hit, own := none }
      phase := if runs ≠ [] then .capturing else if hit ≠ none then .awaitRecord else .ready } := by
  cases runs <;> cases hit <;> rfl

/-- CAPTURE_DECISION changes what the entry's way out of ORDERED changes, and the ports' bookkeeping. -/
theorem exec_captureDecision {left : State} (leaves : nextToLeave [] s.window = some e) (gone : s.leaveOrdered e = left) :
    exec .captureDecision s = .next left.refreshPorts := by
  simp only [exec, execCaptureDecision, leaves, gone]

end

theorem Entry.isLoggedWrite_eq_false {e : Entry} (other : ¬e.isLogged = true ∨ e.isLoggedRead = true) :
    e.isLoggedWrite = false := by
  rcases other with unlogged | read
  · simp [Entry.isLoggedWrite, unlogged]
  · simp_all [Entry.isLoggedWrite, Entry.isLoggedRead]

/-- Settles O50: `nextToLeave_eq_some` names the entry, and each way out of ORDERED has its equation. -/
theorem captureDecisionSendsTheOldestFreeEntry : Obligations.CaptureDecisionSendsTheOldestFreeEntry := by
  intro s older behind e law window ordered blocks free earlier timer becomes rollsBack logs
  have leaves : nextToLeave [] s.window = some e := by
    rw [window]
    exact nextToLeave_eq_some ordered free earlier
  have sent {phase : Phase} (gone : s.leaveOrdered e = s.sendTo e phase) : becomes { e with phase := phase } := by
    rw [State.sendTo_eq law window] at gone
    have answer := exec_captureDecision leaves gone
    rw [State.refreshPorts_eq] at answer
    exact ⟨_, answer, rfl, rfl, rfl⟩
  have rolls : s.log.engine.rollsBack = true ↔ rollsBack := EngineState.rollsBack_iff _
  have works (h : logs) : s.log.engine.logs = true := (EngineState.logs_iff _).2 (by simpa using h)
  refine ⟨fun unlogged => sent ?_, fun read calm => sent ?_, fun read rolling => sent ?_, fun write untagged => sent ?_,
    fun write unattached => sent ?_, fun write tagged rolling => sent ?_, fun write tagged working frozen => sent ?_,
    fun write tagged fault => ?_, fun write tagged working thawed => ?_⟩
  · rw [State.leaveOrdered_other (Entry.isLoggedWrite_eq_false (.inl unlogged)), if_neg (by simp [unlogged])]
  · rw [State.leaveOrdered_other (Entry.isLoggedWrite_eq_false (.inr read)), if_neg]
    rw [Bool.and_eq_true, rolls]
    exact fun here => calm here.2
  · have logged : e.isLogged = true := (Bool.and_eq_true_iff.1 read).1
    rw [State.leaveOrdered_other (Entry.isLoggedWrite_eq_false (.inr read)), logged, rolls.2 rolling]
    rfl
  · rw [State.leaveOrdered_write write, State.leaveLoggedWrite_untagged untagged]
  · rw [State.leaveOrdered_write write, State.leaveLoggedWrite_unlogged unattached]
  · rw [State.leaveOrdered_write write, State.leaveLoggedWrite_rollsBack tagged (rolls.2 rolling)]
    rfl
  · rw [State.leaveOrdered_write write, State.leaveLoggedWrite_logs tagged (works working), if_pos frozen]
    rfl
  · obtain ⟨_, _, _, refused⟩ := State.refuseKey_eq law window .logFault
    have answer := exec_captureDecision leaves
      ((State.leaveOrdered_write write).trans ((State.leaveLoggedWrite_logFault tagged fault).trans refused))
    rw [State.refreshPorts_eq] at answer
    exact ⟨_, answer, rfl, rfl, rfl⟩
  · intro missesAll missed waitsFor
    have misses : s.missesAll e = decide missesAll := s.missesAll_eq e
    have found : s.missedGranules e = missed := by rw [State.missedGranules, misses]
    have waits (q : Num) : q ∈ s.hitRecords e ↔ waitsFor q := by
      rw [State.mem_hitRecords, misses, decide_eq_true_iff]
    obtain ⟨holds, each, maximal⟩ := formRuns_groupRuns s.capture.nextRunId missed
    obtain ⟨unhit, named, newest⟩ := s.hitWait_spec e
    simp only [waits, Newest] at unhit named newest
    have decided : s.leaveOrdered e = s.decideCapture e := by
      rw [State.leaveOrdered_write write, State.leaveLoggedWrite_logs tagged (works working), if_neg (by simp [thawed])]
    have answer := exec_captureDecision leaves (decided.trans (State.decideCapture_eq law window))
    rw [State.refreshPorts_eq, Entry.decide_eq, found] at answer
    refine ⟨_, formRuns s.capture.nextRunId (groupRuns missed), s.hitWait e, answer, rfl, rfl, fun formed => ?_, rfl,
      holds, each, fun k r r' here next => ?_, unhit, named, fun q here others => newest q ⟨here, others⟩⟩
    · have groups : groupRuns missed ≠ [] := fun empty => formed (by rw [empty]; rfl)
      simp [groups]
    · obtain ⟨first, rfl⟩ := List.getElem?_eq_some_iff.1 here
      obtain ⟨second, rfl⟩ := List.getElem?_eq_some_iff.1 next
      exact maximal.getElem k second

end Sys2Proof.Machine
end

/-! # What only its own commands change (O5, O11)

The keys of the window's entries, the Region Table, the log area and the policies stand through all that the part does,
but for the commands made to change them. One equation per operation says so; that of a composed operation is the chain of
its parts. -/

section
-- One proof after another: the threads of many at once outgrow the check's memory limit.
set_option Elab.async false
namespace Sys2Proof.Machine

variable {s t : State}

/-- What only few commands change: the keys of the window's entries in window order (R76), the Region Table (R78), the log
area (R128) and the policies (R195). -/
structure Standing where
  keys : List (Requester × Tag)
  regions : Vector Region 16
  area : Option LogArea
  policy : Policy

/-- The key of an entry, which no other entry of the window has (R76). -/
def Entry.key (e : Entry) : Requester × Tag := (e.requester, e.tag)

/-- What stands in a state. -/
def State.standing (s : State) : Standing :=
  { keys := s.window.map Entry.key, regions := s.regions, area := s.log.area, policy := s.log.policy }

/-- The window law is about the keys alone. -/
theorem windowLaw_iff (s : State) : WindowLaw s ↔ s.standing.keys.length ≤ 8 ∧ s.standing.keys.Nodup := by
  rw [State.standing, List.length_map]
  rfl

/-! ## Replacing and changing one block -/

@[simp] theorem State.modCapture_standing (s : State) (f : CaptureUnit → CaptureUnit) :
    (s.modCapture f).standing = s.standing := rfl
@[simp] theorem State.modStaging_standing (s : State) (f : Staging → Staging) :
    (s.modStaging f).standing = s.standing := rfl
@[simp] theorem State.withRollback_standing (s : State) (c : Option RollbackCursor) :
    (s.withRollback c).standing = s.standing := rfl
@[simp] theorem State.withScan_standing (s : State) (c : Option ScanCursor) : (s.withScan c).standing = s.standing := rfl
@[simp] theorem State.post_standing (s : State) (k : EventKind) (a : Option Num) (r : Option Requester) (d : Detail) :
    (s.post k a r d).standing = s.standing := rfl
@[simp] theorem State.report_standing (s : State) (k : EventKind) (d : Detail) : (s.report k d).standing = s.standing := rfl
@[simp] theorem State.respond_standing (s : State) (x : Status) (b : List Byte) : (s.respond x b).standing = s.standing := rfl
@[simp] theorem State.refuse_standing (s : State) (x : CommandRefusal) : (s.refuse x).standing = s.standing := rfl
@[simp] theorem State.offerMaint_standing (s : State) (m : MaintStep) (q : MemRequest) :
    (s.offerMaint m q).standing = s.standing := rfl
@[simp] theorem State.freeSlot_standing (s : State) : s.freeSlot.standing = s.standing := rfl
@[simp] theorem State.oweWalk_standing (s : State) : s.oweWalk.standing = s.standing := rfl
@[simp] theorem State.clearCaptureSet_standing (s : State) : s.clearCaptureSet.standing = s.standing := rfl

/-- A change of the Log Controller that leaves the log area and the policies. -/
@[simp] theorem State.modLog_standing (s : State) (f : LogController → LogController)
    (area : (f s.log).area = s.log.area) (policy : (f s.log).policy = s.log.policy) :
    (s.modLog f).standing = s.standing :=
  congrArg₂ (fun a p => ({ s.standing with area := a, policy := p } : Standing)) area policy

/-- A change of the window that leaves the keys. -/
@[simp] theorem State.withWindow_standing (s : State) (w : List Entry) (keys : w.map Entry.key = s.window.map Entry.key) :
    (s.withWindow w).standing = s.standing :=
  congrArg (fun k => ({ s.standing with keys := k } : Standing)) keys

/-- A change of entries that leaves their keys. -/
@[simp] theorem State.mapEntries_standing (s : State) (p : Entry → Bool) (f : Entry → Entry)
    (key : ∀ e, (f e).key = e.key) : (s.mapEntries p f).standing = s.standing := by
  refine s.withWindow_standing _ ?_
  rw [List.map_map]
  refine List.map_congr_left fun e _ => ?_
  rw [Function.comp_apply, apply_ite Entry.key, key, ite_self]

@[simp] theorem State.updateEntry_standing (s : State) (r : Requester) (tag : Tag) (f : Entry → Entry)
    (key : ∀ e, (f e).key = e.key) : (s.updateEntry r tag f).standing = s.standing := s.mapEntries_standing _ f key

@[simp] theorem State.setEngine_standing (s : State) (x : EngineState) : (s.setEngine x).standing = s.standing := rfl
@[simp] theorem State.setFaultLatch_standing (s : State) (set : Bool) : (s.setFaultLatch set).standing = s.standing := rfl
@[simp] theorem State.setCheckpointLatch_standing (s : State) (set : Bool) :
    (s.setCheckpointLatch set).standing = s.standing := rfl
@[simp] theorem State.setFreeze_standing (s : State) : s.setFreeze.standing = s.standing := rfl
@[simp] theorem State.restartTimer_standing (s : State) : s.restartTimer.standing = s.standing := rfl
@[simp] theorem State.placeHeader_standing (s : State) (p : HeaderPurpose) : (s.placeHeader p).standing = s.standing := rfl
@[simp] theorem State.dropMarks_standing (s : State) (n : Nat) : (s.dropMarks n).standing = s.standing := rfl
@[simp] theorem State.appendRecord_standing (s : State) (r : Record) : (s.appendRecord r).standing = s.standing := rfl
@[simp] theorem State.acceptCheckpoint_standing (s : State) : s.acceptCheckpoint.standing = s.standing := rfl
@[simp] theorem State.closeMark_standing (s : State) : s.closeMark.standing = s.standing := rfl
@[simp] theorem State.openMark_standing (s : State) (reserved : Num) : (s.openMark reserved).standing = s.standing := rfl
@[simp] theorem State.endInLogFault_standing (s : State) : s.endInLogFault.standing = s.standing := rfl

/-! ## Changes of an entry -/

@[simp] theorem Entry.finish_key (e : Entry) (r : HostResult) (data : List Byte) : (e.finish r data).key = e.key := rfl

@[simp] theorem Entry.recordRun_key (e : Entry) (id : Nat) (seq : Num) : (e.recordRun id seq).key = e.key := by
  rw [Entry.recordRun_eq]
  rfl

@[simp] theorem Entry.grant_key (e : Entry) (id : Nat) : (e.grant id).key = e.key := by
  unfold Entry.grant
  split <;> rfl

@[simp] theorem Entry.persisted_key (e : Entry) (seq : Num) : (e.persisted seq).key = e.key := by
  rw [Entry.persisted_eq]
  rfl

@[simp] theorem Entry.restart_key (e : Entry) (epoch : Num) : (e.restart epoch).key = e.key := by
  unfold Entry.restart
  repeat' split
  all_goals rfl

@[simp] theorem Entry.detach_key (e : Entry) : e.detach.key = e.key := by
  unfold Entry.detach
  dsimp only
  repeat' split
  all_goals rfl

@[simp] theorem Entry.tick_key (e : Entry) : e.tick.key = e.key := by
  unfold Entry.tick
  split <;> rfl

@[simp] theorem Entry.complete_key (e : Entry) (response : MemResponse) : (e.complete response).key = e.key := by
  cases response <;> rfl

/-! ## Shared operations -/

@[simp] theorem State.oweWalkIf_standing (s : State) (due : Bool) : (s.oweWalkIf due).standing = s.standing := by
  cases due <;> rfl

@[simp] theorem State.postRefusals_standing (s : State) (reason : RefusalReason) (entries : List Entry) :
    (s.postRefusals reason entries).standing = s.standing := by
  rw [State.postRefusals_eq]
  rfl

@[simp] theorem State.compareLowSpace_standing (s : State) : s.compareLowSpace.standing = s.standing := by
  unfold State.compareLowSpace
  repeat' split
  all_goals rfl

@[simp] theorem State.refreshPorts_standing (s : State) : s.refreshPorts.standing = s.standing := by
  rw [State.refreshPorts_eq]
  rfl

@[simp] theorem State.releaseHolds_standing (s : State) (cause : HoldCause) :
    (s.releaseHolds cause).standing = s.standing := s.mapEntries_standing _ _ fun _ => rfl

@[simp] theorem State.abandonCaptures_standing (s : State) (p : Entry → Bool) :
    (s.abandonCaptures p).standing = s.standing :=
  (State.oweWalkIf_standing _ _).trans (s.mapEntries_standing p _ fun _ => rfl)

@[simp] theorem State.refuseEntries_standing (s : State) (p : Entry → Bool) (reason : RefusalReason) :
    (s.refuseEntries p reason).standing = s.standing := by
  rw [State.refuseEntries, State.postRefusals_standing,
    State.mapEntries_standing _ _ _ fun _ => Entry.finish_key _ _ _, State.abandonCaptures_standing]

@[simp] theorem State.askHeader_standing (s : State) (p : HeaderPurpose) : (s.askHeader p).standing = s.standing := by
  unfold State.askHeader
  split <;> rfl

@[simp] theorem State.dropCheckpointLatch_standing (s : State) : s.dropCheckpointLatch.standing = s.standing := by
  rw [State.dropCheckpointLatch_eq]
  rfl

@[simp] theorem State.dropFaultLatch_standing (s : State) (prevented : EngineState) :
    (s.dropFaultLatch prevented).standing = s.standing := by
  rw [State.dropFaultLatch_eq]
  rfl

/-! ## Records and the walk -/

@[simp] theorem State.appendFiller_standing (s : State) (f : Option Record) : (s.appendFiller f).standing = s.standing := by
  cases f <;> rfl

@[simp] theorem State.postPoison_standing (s : State) (h : RecordHeader) : (s.postPoison h).standing = s.standing := by
  unfold State.postPoison
  split <;> rfl

theorem State.enterRecord_standing (s : State) (e : Entry) (run : Run) (r : Record) (taken : Nat) :
    (s.enterRecord e run r taken).standing = s.standing := by
  have returned (u : State) (n : Nat) :
      (u.modLog fun l => { l with reserved := l.reserved - n }).standing = u.standing := rfl
  simp [State.enterRecord, returned]

@[simp] theorem State.createRecord_standing (s : State) (e : Entry) (run : Run) (poison : Bool) (data : List Byte) :
    (s.createRecord e run poison data).standing = s.standing :=
  (State.enterRecord_standing _ _ _ _ _).trans (s.appendFiller_standing _)

@[simp] theorem State.createDeferred_standing (s : State) (id : Nat) : (s.createDeferred id).standing = s.standing := by
  unfold State.createDeferred
  repeat' split
  all_goals simp

@[simp] theorem State.createAllDeferred_standing (s : State) : s.createAllDeferred.standing = s.standing := by
  unfold State.createAllDeferred
  generalize s.deferredRuns = ids
  induction ids generalizing s with
  | nil => rfl
  | cons id rest ih => exact (ih _).trans (s.createDeferred_standing id)

theorem State.recycleRelease_standing (s : State) : s.recycleRelease.standing = s.standing := by
  simp [State.recycleRelease]

theorem State.grantRun_standing (s : State) (e : Entry) (run : Run) : (s.grantRun e run).standing = s.standing := by
  simp [State.grantRun]

theorem State.stallRun_standing (s : State) (e : Entry) (run : Run) : (s.stallRun e run).standing = s.standing := by
  have posted : (s.postLogFull e run).standing = s.standing := by
    unfold State.postLogFull
    split <;> rfl
  unfold State.stallRun
  split
  · exact posted
  · refine Eq.trans ?_ posted
    exact State.updateEntry_standing _ _ _ _ fun _ => rfl

@[simp] theorem State.walk_standing (s : State) : s.walk.standing = s.standing :=
  State.walk_induction (R := fun s t => t.standing = s.standing) (fun _ => rfl) (fun first second => second.trans first)
    (fun _ => rfl) (fun s _ => s.recycleRelease_standing) (fun s e run _ _ => s.grantRun_standing e run)
    (fun s e run => s.stallRun_standing e run) s

@[simp] theorem State.walkStalled_standing (s : State) : s.walkStalled.standing = s.standing := by
  unfold State.walkStalled
  split <;> simp

/-! ## The latches, the boundary and the stream's responses -/

@[simp] theorem State.acceptRollback_standing (s : State) (target : Mark) :
    (s.acceptRollback target).standing = s.standing := by
  rw [State.acceptRollback, State.refreshPorts_standing, State.refuseEntries_standing]
  exact State.mapEntries_standing _ _ _ fun _ => rfl

@[simp] theorem State.acceptFaultRollback_standing (s : State) : s.acceptFaultRollback.standing = s.standing := by
  unfold State.acceptFaultRollback
  split <;> simp

@[simp] theorem State.finishArmed_standing (s : State) : s.finishArmed.standing = s.standing := by
  unfold State.finishArmed State.actOnLatches
  repeat' split
  all_goals simp

@[simp] theorem State.cancelAtLoggingStart_standing (s : State) : s.cancelAtLoggingStart.standing = s.standing := by
  simp [State.cancelAtLoggingStart]

@[simp] theorem State.finishHeader_standing (s : State) (purpose : HeaderPurpose) :
    (s.finishHeader purpose).standing = s.standing := by
  cases purpose <;> simp [State.finishHeader, State.endOperation, State.endRollback, State.endAttach]

@[simp] theorem State.dropForBoundary_standing (s : State) : s.dropForBoundary.standing = s.standing := by
  unfold State.dropForBoundary
  split <;> simp

@[simp] theorem State.boundary_standing (s : State) (reserved : Num) : (s.boundary reserved).standing = s.standing := by
  simp [State.boundary]

@[simp] theorem State.persistRecord_standing (s : State) (r : Record) : (s.persistRecord r).standing = s.standing := by
  rw [State.persistRecord, State.oweWalk_standing, State.mapEntries_standing]
  · rfl
  · exact fun e => e.persisted_key _

@[simp] theorem State.truncateStream_standing (s : State) (failed : StreamItem → Bool) :
    (s.truncateStream failed).standing = s.standing := by
  obtain ⟨_, _, rewound⟩ := s.log.rewind_eq (streamRecords (discardedItems s.stream failed))
  rw [State.truncateStream_eq, rewound]
  rfl

@[simp] theorem State.enterLogFault_standing (s : State) (item : StreamItem) (failed : StreamItem → Bool) :
    (s.enterLogFault item failed).standing = s.standing := by
  simp [State.enterLogFault, State.postLogFault, State.dropLatches]

/-! ## Rollback -/

@[simp] theorem State.completeRollback_standing (s : State) (cursor : RollbackCursor) (replay : Replay) :
    (s.completeRollback cursor replay).standing = s.standing := by
  rw [State.completeRollback, State.askHeader_standing, State.withRollback_standing, State.mapEntries_standing]
  · rfl
  · exact fun _ => rfl

@[simp] theorem State.haltReplay_standing (s : State) (cursor : RollbackCursor) (replay : Replay) :
    (s.haltReplay cursor replay).standing = s.standing := rfl

@[simp] theorem State.recordBad_standing (s : State) (cursor : RollbackCursor) (replay : Replay) (position : Nat)
    (reason : BadReason) : (s.recordBad cursor replay position reason).standing = s.standing := rfl

@[simp] theorem State.advanceReplay_standing (s : State) (cursor : RollbackCursor) (replay : Replay) :
    (s.advanceReplay cursor replay).standing = s.standing := by
  unfold State.advanceReplay State.readRecord
  dsimp only
  repeat' split
  all_goals simp

@[simp] theorem State.moveBack_standing (s : State) (cursor : RollbackCursor) (replay : Replay) (h : RecordHeader)
    (position : Nat) : (s.moveBack cursor replay h position).standing = s.standing := by
  unfold State.moveBack State.goOn State.moveLog
  split <;> simp

@[simp] theorem State.recordRead_standing (s : State) (cursor : RollbackCursor) (replay : Replay) (position length : Nat)
    (bytes : List Byte) : (s.recordRead cursor replay position length bytes).standing = s.standing := by
  unfold State.recordRead State.applyRecord
  repeat' split
  all_goals simp

@[simp] theorem State.restored_standing (s : State) (cursor : RollbackCursor) (replay : Replay) (h : RecordHeader)
    (position : Nat) (result : WriteResult) : (s.restored cursor replay h position result).standing = s.standing := by
  cases result <;> simp [State.restored]

@[simp] theorem State.haltAt_standing (s : State) (cursor : RollbackCursor) (replay : Replay) :
    (s.haltAt cursor replay).standing = s.standing := by
  unfold State.haltAt
  split <;> simp

/-! ## FORMAT, ATTACH and DETACH -/

@[simp] theorem State.finishFormat_standing (s : State) : s.finishFormat.standing = s.standing := by
  simp [State.finishFormat]

@[simp] theorem State.failFormat_standing (s : State) (copy : CopyName) : (s.failFormat copy).standing = s.standing :=
  State.dropFaultLatch_standing _ _

@[simp] theorem State.failAttach_standing (s : State) (address : Option Num) (reason : AttachFailure) :
    (s.failAttach address reason).standing = s.standing := by
  simp [State.failAttach, State.dropFaultDetached]

@[simp] theorem State.postDropped_standing (s : State) (dropped : Option Num) :
    (s.postDropped dropped).standing = s.standing := by
  cases dropped <;> rfl

@[simp] theorem State.acceptWalked_standing (s : State) (c : ScanCursor) (h : RecordHeader) :
    (s.acceptWalked c h).standing = s.standing := by
  simp [State.acceptWalked, State.readWalkHeader]

@[simp] theorem State.completeAttach_standing (s : State) (c : ScanCursor) : (s.completeAttach c).standing = s.standing := by
  unfold State.completeAttach
  split <;> simp [LogController.takeLog]

@[simp] theorem State.copyReturned_standing (s : State) (c : ScanCursor) (copy : CopyName) (response : MemResponse) :
    (s.copyReturned c copy response).standing = s.standing := by
  unfold State.copyReturned State.readCopyB State.chooseAndWalk State.startWalk State.readWalkHeader
  repeat' split
  all_goals simp

@[simp] theorem State.headerWalked_standing (s : State) (c : ScanCursor) (bytes : List Byte) :
    (s.headerWalked c bytes).standing = s.standing := by
  unfold State.headerWalked
  dsimp only
  repeat' split
  all_goals simp

@[simp] theorem State.recordWalked_standing (s : State) (c : ScanCursor) (h : RecordHeader) (bytes : List Byte) :
    (s.recordWalked c h bytes).standing = s.standing := by
  unfold State.recordWalked
  split <;> simp

@[simp] theorem State.finishDetach_standing (s : State) : s.finishDetach.standing = s.standing :=
  State.dropFaultLatch_standing _ _

@[simp] theorem State.acceptDetach_standing (s : State) : s.acceptDetach.standing = s.standing := by
  simp [State.acceptDetach]

@[simp] theorem State.startInDetached_standing (s : State) (accept : State → State)
    (accepted : ∀ u, (accept u).standing = u.standing) : (s.startInDetached accept).standing = s.standing := by
  unfold State.startInDetached
  repeat' split
  all_goals simp [accepted]

/-! ## Epochs, faults and the ports -/

@[simp] theorem State.checkpointStrobe_standing (s : State) (source : CheckpointSource) :
    (s.checkpointStrobe source).standing = s.standing := by
  unfold State.checkpointStrobe
  split <;> rfl

@[simp] theorem State.acceptRelease_standing (s : State) (n : Nat) : (s.acceptRelease n).standing = s.standing := by
  simp [State.acceptRelease]

@[simp] theorem State.acceptDiscard_standing (s : State) : s.acceptDiscard.standing = s.standing := by
  have discarded : ((s.withRollback none).modLog LogController.discarded).standing = s.standing := rfl
  simp [State.acceptDiscard, State.restartUncommitted, discarded]

@[simp] theorem State.timerAction_standing (s : State) : s.timerAction.standing = s.standing := by
  unfold State.timerAction
  split <;> simp

@[simp] theorem State.faultStrobe_standing (s : State) : s.faultStrobe.standing = s.standing := by
  unfold State.faultStrobe State.faultRollback
  dsimp only
  repeat' split
  all_goals simp

@[simp] theorem State.thaw_standing (s : State) : s.thaw.standing = s.standing := by
  unfold State.thaw
  split <;> simp

@[simp] theorem State.postDataError_standing (s : State) (e : Entry) (response : MemResponse) :
    (s.postDataError e response).standing = s.standing := by
  cases response <;> rfl

@[simp] theorem State.sendTo_standing (s : State) (e : Entry) (phase : Phase) : (s.sendTo e phase).standing = s.standing :=
  s.updateEntry_standing _ _ _ fun _ => rfl

@[simp] theorem State.decideCapture_standing (s : State) (e : Entry) : (s.decideCapture e).standing = s.standing :=
  s.updateEntry_standing _ _ _ fun _ => rfl

@[simp] theorem State.leaveOrdered_standing (s : State) (e : Entry) : (s.leaveOrdered e).standing = s.standing := by
  unfold State.leaveOrdered State.leaveLoggedWrite State.holdEntry
  repeat' split
  all_goals simp

@[simp] theorem State.deferRun_standing (s : State) (e : Entry) (run : Run) (response : MemResponse) :
    (s.deferRun e run response).standing = s.standing :=
  s.updateEntry_standing _ _ _ fun _ => rfl

@[simp] theorem State.dropRun_standing (s : State) (id : Nat) : (s.dropRun id).standing = s.standing := by
  rw [State.dropRun, State.oweWalk_standing, State.mapEntries_standing]
  · rfl
  · exact fun _ => rfl

@[simp] theorem State.grant_standing (s : State) (g : Grant) : (s.grant g).standing = s.standing := by
  cases g with
  | log item => rfl
  | maint offer => rfl
  | capture run => exact State.mapEntries_standing _ _ _ fun _ => rfl
  | host entry => exact State.updateEntry_standing _ _ _ _ fun _ => rfl

/-! ## Every command -/

/-- What a command changes of what stands: the keys only with a request accepted or a response delivered, the Region Table
only as a region command, the log area only as SET_LOG, the policies only as SET_POLICY. -/
structure ChangesByItsCommands (c : Instr) (x y : Standing) : Prop where
  keys : (∀ arriving, c ≠ .hostRequestAccept arriving) → c ≠ .responseDelivery → y.keys = x.keys
  regions : (∀ i b n m w, c ≠ .setRegion i b n m w) → (∀ i, c ≠ .clearRegion i) → y.regions = x.regions
  area : (∀ b n, c ≠ .setLog b n) → y.area = x.area
  policy : (∀ l f h n p r a, c ≠ .setPolicy l f h n p r a) → y.policy = x.policy

theorem ChangesByItsCommands.of_eq {c : Instr} {x y : Standing} (same : y = x) : ChangesByItsCommands c x y := by
  subst same
  exact ⟨fun _ _ => rfl, fun _ _ => rfl, fun _ => rfl, fun _ => rfl⟩

/-- A state that a command answers with is one that its own commands alone have changed. -/
def Stands (c : Instr) (s : State) (o : Host.Outcome State Fault Refusal) : Prop :=
  ∀ t, o = .next t → ChangesByItsCommands c s.standing t.standing

section
variable {c : Instr}

theorem Stands.change (changed : ChangesByItsCommands c s.standing t.standing) : Stands c s (.next t) := by
  rintro _ ⟨⟩
  exact changed

theorem Stands.next (same : t.standing = s.standing) : Stands c s (.next t) := .change (.of_eq same)

theorem Stands.idle : Stands c s (.next s) := .next rfl

/-- While RST is low no frame is taken, and nothing changes. -/
theorem Stands.onFrameChange {take : State → State}
    (taken : ChangesByItsCommands c s.standing (take s).standing) : Stands c s (.next (s.onFrame take)) := by
  refine .change ?_
  unfold State.onFrame
  split
  · exact .of_eq rfl
  · exact taken

theorem Stands.onFrame {take : State → State} (taken : (take s).standing = s.standing) :
    Stands c s (.next (s.onFrame take)) := .onFrameChange (.of_eq taken)

/-- A command answered by one of two states. -/
theorem Stands.ite {p : Prop} [Decidable p] {o o' : Host.Outcome State Fault Refusal} (yes : Stands c s o)
    (no : Stands c s o') : Stands c s (if p then o else o') := by
  split
  · exact yes
  · exact no

/-! ### The part's own happenings -/

theorem execCaptureDecision_stands : Stands c s (execCaptureDecision s) := by
  unfold execCaptureDecision
  split
  · exact .idle
  · exact .next (by simp)

theorem execCaptureWalk_stands : Stands c s (execCaptureWalk s) := by
  refine .next ?_
  split <;> simp

theorem execHeaderWritePlacement_stands : Stands c s (execHeaderWritePlacement s) := by
  unfold execHeaderWritePlacement
  split
  · exact .idle
  · exact .ite (.next rfl) .idle

theorem execMemoryGrant_stands : Stands c s (execMemoryGrant s) := by
  unfold execMemoryGrant
  refine .ite .idle ?_
  split
  · exact .idle
  · exact .next (s.grant_standing _)

theorem execCheckpointBoundary_stands : Stands c s (execCheckpointBoundary s) := by
  unfold execCheckpointBoundary
  split
  · exact .idle
  · exact .next (s.boundary_standing _)

theorem execQuiesceComplete_stands : Stands c s (execQuiesceComplete s) := by
  unfold execQuiesceComplete State.startReplay
  split
  · exact .idle
  · exact .ite (.next (State.advanceReplay_standing _ _ _)) .idle

theorem execDetachComplete_stands : Stands c s (execDetachComplete s) := by
  refine .next ?_
  split <;> simp

theorem execHoldTimeout_stands : Stands c s (execHoldTimeout s) := by
  unfold execHoldTimeout
  split
  · exact .idle
  · exact .next (by simp)

theorem execEpochTimer_stands : Stands c s (execEpochTimer s) := by
  unfold execEpochTimer
  split
  · exact .idle
  · exact .next (State.timerAction_standing _)

theorem execTick_stands : Stands c s (execTick s) := by
  refine .next ((State.withWindow_standing _ _ ?_).trans rfl)
  rw [List.map_map]
  exact List.map_congr_left fun e _ => e.tick_key

theorem execCkptStrobe_stands : Stands c s (execCkptStrobe s) := by
  refine .next ?_
  split <;> simp

theorem execFaultStrobe_stands : Stands c s (execFaultStrobe s) := by
  refine .next ?_
  split <;> simp

/-! ### Memory responses -/

theorem execCaptureReadResponse_stands (response : MemResponse) : Stands c s (execCaptureReadResponse response s) := by
  unfold execCaptureReadResponse
  split
  · split
    · exact .ite (.ite (.next (by simp)) (.next (by simp))) .idle
    · exact .idle
  · exact .idle

theorem execAbandonedReadReturn_stands (response : MemResponse) : Stands c s (execAbandonedReadReturn response s) := by
  unfold execAbandonedReadReturn
  split
  · exact .ite (.next (by simp)) .idle
  · exact .idle

theorem execRecordWriteResponse_stands (result : WriteResult) : Stands c s (execRecordWriteResponse result s) := by
  unfold execRecordWriteResponse
  split
  · split
    · split
      · exact .next (State.persistRecord_standing _ _)
      · exact .idle
      · exact .next (State.enterLogFault_standing _ _ _)
    · exact .idle
  · exact .idle

theorem execHeaderWriteResponse_stands (result : WriteResult) : Stands c s (execHeaderWriteResponse result s) := by
  unfold execHeaderWriteResponse
  split
  · split
    · split
      · exact .next (State.finishHeader_standing _ _)
      · exact .idle
      · exact .next (State.enterLogFault_standing _ _ _)
    · exact .idle
  · exact .idle

theorem execDiscardedItemResponse_stands (result : WriteResult) : Stands c s (execDiscardedItemResponse result s) := by
  unfold execDiscardedItemResponse
  split
  · exact .next s.freeSlot_standing
  · exact .idle

theorem execRollbackRecordReadResponse_stands (response : MemResponse) :
    Stands c s (execRollbackRecordReadResponse response s) := by
  unfold execRollbackRecordReadResponse
  split
  · exact .idle
  · split
    · refine .ite ?_ .idle
      split
      · exact .next rfl
      · exact .next (State.recordRead_standing _ _ _ _ _ _)
    · exact .idle

theorem execRestoreWriteResponse_stands (result : WriteResult) : Stands c s (execRestoreWriteResponse result s) := by
  unfold execRestoreWriteResponse
  split
  · exact .idle
  · split
    · exact .ite (.next (State.restored_standing _ _ _ _ _ _)) .idle
    · exact .idle

theorem execFormatCopyWriteResponse_stands (result : WriteResult) :
    Stands c s (execFormatCopyWriteResponse result s) := by
  unfold execFormatCopyWriteResponse
  split
  · exact .idle
  · exact .next (State.failFormat_standing _ _)
  · exact .next rfl
  · exact .next (State.finishFormat_standing _)

theorem execAttachHeaderReadResponse_stands (response : MemResponse) :
    Stands c s (execAttachHeaderReadResponse response s) := by
  unfold execAttachHeaderReadResponse
  split
  · exact .idle
  · exact .ite (.next (State.copyReturned_standing _ _ _ _)) (.ite (.next (State.copyReturned_standing _ _ _ _)) .idle)

theorem execWalkHeaderReadResponse_stands (response : MemResponse) :
    Stands c s (execWalkHeaderReadResponse response s) := by
  unfold execWalkHeaderReadResponse
  split
  · exact .idle
  · refine .ite ?_ .idle
    split
    · exact .next (State.completeAttach_standing _ _)
    · exact .next (State.headerWalked_standing _ _ _)

theorem execWalkRecordReadResponse_stands (response : MemResponse) :
    Stands c s (execWalkRecordReadResponse response s) := by
  unfold execWalkRecordReadResponse
  split
  · exact .idle
  · split
    · exact .idle
    · refine .ite ?_ .idle
      split
      · exact .next (State.completeAttach_standing _ _)
      · exact .next (State.recordWalked_standing _ _ _ _)

theorem execHostAccessResponse_stands (response : MemResponse) : Stands c s (execHostAccessResponse response s) := by
  unfold execHostAccessResponse
  split
  · split
    · refine .ite (.next ?_) .idle
      rw [State.refreshPorts_standing, State.postDataError_standing,
        State.updateEntry_standing _ _ _ _ fun _ => Entry.complete_key _ _]
      rfl
    · exact .idle
  · exact .idle

theorem execOrphanResponse_stands (response : MemResponse) : Stands c s (execOrphanResponse response s) := by
  unfold execOrphanResponse
  split
  · exact .idle
  · exact .ite (.next rfl) .idle

/-! ### Link commands -/

theorem execFrameDiscard_stands (bits : List Bool) : Stands c s (execFrameDiscard bits s) := by
  refine .onFrame ?_
  split <;> rfl

theorem execReadRegion_stands (index : Byte) : Stands c s (execReadRegion index s) := by
  refine .onFrame ?_
  split <;> rfl

theorem execReadMark_stands (index : Byte) : Stands c s (execReadMark index s) := by
  refine .onFrame ?_
  split <;> rfl

theorem execPopEvent_stands : Stands c s (execPopEvent s) := by
  refine .onFrame ?_
  split <;> rfl

theorem execDetach_stands : Stands c s (execDetach s) := by
  refine .onFrame ?_
  split <;> simp

theorem execCheckpoint_stands : Stands c s (execCheckpoint s) := by
  refine .onFrame ?_
  split <;> rfl

theorem execRelease_stands (n : Byte) : Stands c s (execRelease n s) := by
  refine .onFrame ?_
  repeat' split
  all_goals simp

theorem execDiscard_stands : Stands c s (execDiscard s) := by
  refine .onFrame ?_
  split <;> simp

theorem execRollback_stands (depth : Byte) : Stands c s (execRollback depth s) := by
  refine .onFrame ?_
  repeat' split
  all_goals simp

theorem execHalt_stands : Stands c s (execHalt s) := by
  refine .onFrame ?_
  dsimp only
  repeat' split
  all_goals simp

theorem execResume_stands : Stands c s (execResume s) := by
  refine .onFrame ?_
  dsimp only
  repeat' split
  all_goals simp

/-! ### The commands that change what stands -/

/-- A command that changes the Region Table and nothing else that stands. -/
theorem ChangesByItsCommands.of_regions {x y : Standing} {r : Vector Region 16}
    (changed : y = { x with regions := r }) (region : (∃ i b n m w, c = .setRegion i b n m w) ∨ ∃ i, c = .clearRegion i) :
    ChangesByItsCommands c x y := by
  subst changed
  refine ⟨fun _ _ => rfl, fun noSet noClear => ?_, fun _ => rfl, fun _ => rfl⟩
  obtain ⟨i, b, n, m, w, set⟩ | ⟨i, clear⟩ := region
  · exact absurd set (noSet i b n m w)
  · exact absurd clear (noClear i)

theorem execSetRegion_stands (index : Byte) (base size : Num) (mode mask : Byte) :
    Stands (.setRegion index base size mode mask) s (execSetRegion index base size mode mask s) := by
  refine .onFrameChange ?_
  split
  · exact .of_eq rfl
  · split
    · exact .of_eq rfl
    · split
      · exact .of_eq rfl
      · split
        · exact .of_eq rfl
        · exact .of_regions rfl (.inl ⟨_, _, _, _, _, rfl⟩)

theorem execClearRegion_stands (index : Byte) : Stands (.clearRegion index) s (execClearRegion index s) := by
  refine .onFrameChange ?_
  split
  · exact .of_eq rfl
  · split
    · exact .of_eq rfl
    · split
      · exact .of_eq rfl
      · exact .of_regions rfl (.inr ⟨_, rfl⟩)

theorem execSetLog_stands (base size : Num) : Stands (.setLog base size) s (execSetLog base size s) := by
  refine .onFrameChange ?_
  split
  · split
    · exact .of_eq rfl
    · split
      · exact .of_eq rfl
      · exact ⟨fun _ _ => rfl, fun _ _ => rfl, fun other => absurd rfl (other base size), fun _ => rfl⟩
  · exact .of_eq rfl

/-- New policies leave the rest of what stands (R196). -/
theorem State.setPolicies_standing (s : State) (p : Policy) :
    (s.setPolicies p).standing = { s.standing with policy := p } := by
  have walked (u : State) (unchanged : Bool) : (u.walkUnless unchanged).standing = u.standing := by
    unfold State.walkUnless
    split <;> simp
  have compared (u : State) (unchanged : Bool) : (u.compareUnless unchanged).standing = u.standing := by
    unfold State.compareUnless
    split <;> simp
  rw [State.setPolicies, compared, walked]
  rfl

theorem execSetPolicy_stands (logFull faultAction : Byte) (holdLimit : BitVec 16) (threshold : Byte)
    (prescaler : BitVec 16) (reference : Num) (timerAction : Byte) :
    Stands (.setPolicy logFull faultAction holdLimit threshold prescaler reference timerAction) s
      (execSetPolicy logFull faultAction holdLimit threshold prescaler reference timerAction s) := by
  refine .onFrameChange ?_
  split
  · exact .of_eq rfl
  · rw [State.setPolicies_standing]
    exact ⟨fun _ _ => rfl, fun _ _ => rfl, fun _ => rfl, fun other => absurd rfl (other _ _ _ _ _ _ _)⟩

/-- A request taken puts its key behind those of the window (R84). -/
theorem State.takeRequest_standing (s : State) (r : HostRequest) :
    (s.takeRequest r).standing = { s.standing with keys := s.standing.keys ++ [(r.requester, r.tag)] } := by
  have appended (e : Entry) (key : e.key = (r.requester, r.tag)) : (s.appendEntry e).standing =
      { s.standing with keys := s.standing.keys ++ [(r.requester, r.tag)] } := by
    rw [← key]
    exact congrArg (fun k => ({ s.standing with keys := k } : Standing)) List.map_append
  unfold State.takeRequest
  dsimp only
  repeat' split
  all_goals exact appended _ rfl

/-- HOST_REQUEST_ACCEPT leaves what stands, or appends the key of a request that may be accepted (R76). -/
theorem execHostRequestAccept_cases {arriving : Option HostRequest}
    (taken : execHostRequestAccept arriving s = .next t) :
    t.standing = s.standing ∨ ∃ r : HostRequest, s.mayAccept r = true ∧
      t.standing = { s.standing with keys := s.standing.keys ++ [(r.requester, r.tag)] } := by
  unfold execHostRequestAccept at taken
  dsimp only at taken
  split at taken
  · cases taken
    exact .inl rfl
  · split at taken
    · cases taken
      exact .inl rfl
    · next r _ _ =>
      split at taken
      · next allowed =>
        cases taken
        exact .inr ⟨r, allowed, by rw [State.refreshPorts_standing, State.takeRequest_standing]; rfl⟩
      · cases taken
        exact .inl rfl

theorem execHostRequestAccept_stands (arriving : Option HostRequest) :
    Stands (.hostRequestAccept arriving) s (execHostRequestAccept arriving s) := by
  intro t taken
  obtain same | ⟨r, _, appended⟩ := execHostRequestAccept_cases taken
  · exact .of_eq same
  · rw [appended]
    exact ⟨fun other => absurd rfl (other arriving), fun _ _ => rfl, fun _ => rfl, fun _ => rfl⟩

theorem removeOldest_sublist (requester : Requester) (window : List Entry) :
    (removeOldest requester window).Sublist window := by
  induction window with
  | nil => exact .slnil
  | cons e rest ih =>
    unfold removeOldest
    split
    · exact List.sublist_cons_self _ _
    · exact ih.cons_cons _

/-- RESPONSE_DELIVERY takes keys from the window and leaves the rest of what stands (R101). -/
theorem execResponseDelivery_cases (taken : execResponseDelivery s = .next t) :
    ∃ keys : List (Requester × Tag), keys.Sublist s.standing.keys ∧ t.standing = { s.standing with keys := keys } := by
  unfold execResponseDelivery at taken
  split at taken
  · cases taken
    exact ⟨_, List.Sublist.refl _, rfl⟩
  · cases taken
    exact ⟨_, (removeOldest_sublist _ s.window).map Entry.key, State.refreshPorts_standing _⟩

theorem execResponseDelivery_stands : Stands .responseDelivery s (execResponseDelivery s) := by
  intro t taken
  obtain ⟨keys, _, delivered⟩ := execResponseDelivery_cases taken
  rw [delivered]
  exact ⟨fun _ other => absurd rfl other, fun _ _ => rfl, fun _ => rfl, fun _ => rfl⟩

end

/-- What a command but a reset changes of what stands, one line for each row of the opcode table. -/
theorem exec_stands (c : Instr) (s : State) (noReset : isReset c = false) : Stands c s (exec c s) := by
  cases c with
  | powerOn => cases noReset
  | rst edge =>
    cases edge with
    | falls => cases noReset
    | rises => exact .next rfl
  | hostRequestAccept arriving => exact execHostRequestAccept_stands arriving
  | captureDecision => exact execCaptureDecision_stands
  | captureWalk => exact execCaptureWalk_stands
  | headerWritePlacement => exact execHeaderWritePlacement_stands
  | memoryGrant => exact execMemoryGrant_stands
  | captureReadResponse response => exact execCaptureReadResponse_stands response
  | abandonedReadReturn response => exact execAbandonedReadReturn_stands response
  | recordWriteResponse result => exact execRecordWriteResponse_stands result
  | headerWriteResponse result => exact execHeaderWriteResponse_stands result
  | discardedItemResponse result => exact execDiscardedItemResponse_stands result
  | checkpointBoundary => exact execCheckpointBoundary_stands
  | quiesceComplete => exact execQuiesceComplete_stands
  | rollbackRecordReadResponse response => exact execRollbackRecordReadResponse_stands response
  | restoreWriteResponse result => exact execRestoreWriteResponse_stands result
  | formatCopyWriteResponse result => exact execFormatCopyWriteResponse_stands result
  | attachHeaderReadResponse response => exact execAttachHeaderReadResponse_stands response
  | walkHeaderReadResponse response => exact execWalkHeaderReadResponse_stands response
  | walkRecordReadResponse response => exact execWalkRecordReadResponse_stands response
  | hostAccessResponse response => exact execHostAccessResponse_stands response
  | orphanResponse response => exact execOrphanResponse_stands response
  | strayResponse response => exact .idle
  | detachComplete => exact execDetachComplete_stands
  | responseDelivery => exact execResponseDelivery_stands
  | holdTimeout => exact execHoldTimeout_stands
  | epochTimer => exact execEpochTimer_stands
  | ckptStrobe => exact execCkptStrobe_stands
  | faultStrobe => exact execFaultStrobe_stands
  | frameDiscard bits => exact execFrameDiscard_stands bits
  | nop => exact .onFrame rfl
  | readStatus => exact .onFrame rfl
  | setRegion index base size mode mask => exact execSetRegion_stands index base size mode mask
  | clearRegion index => exact execClearRegion_stands index
  | readRegion index => exact execReadRegion_stands index
  | setLog base size => exact execSetLog_stands base size
  | format => exact .onFrame (s.startInDetached_standing _ fun _ => rfl)
  | attach => exact .onFrame (s.startInDetached_standing _ fun _ => rfl)
  | detach => exact execDetach_stands
  | checkpoint => exact execCheckpoint_stands
  | release n => exact execRelease_stands n
  | discard => exact execDiscard_stands
  | rollback depth => exact execRollback_stands depth
  | halt => exact execHalt_stands
  | resume => exact execResume_stands
  | freeze => exact .onFrame rfl
  | thaw => exact .onFrame (State.thaw_standing _)
  | setPolicy logFull faultAction holdLimit threshold prescaler reference timerAction =>
    exact execSetPolicy_stands logFull faultAction holdLimit threshold prescaler reference timerAction
  | readPolicy => exact .onFrame rfl
  | readMark index => exact execReadMark_stands index
  | popEvent => exact execPopEvent_stands
  | clearSummary => exact .onFrame rfl
  | restart => cases noReset
  | tick => exact execTick_stands

/-! ## The window law -/

/-- A request that may be accepted finds room in the window and its key free (R76). -/
theorem WindowLaw.append {r : HostRequest} (law : WindowLaw s) (allowed : s.mayAccept r = true)
    (appended : t.standing = { s.standing with keys := s.standing.keys ++ [(r.requester, r.tag)] }) : WindowLaw t := by
  obtain ⟨room, free⟩ := State.mayAccept_iff.1 allowed
  rw [windowLaw_iff, appended]
  refine ⟨?_, List.nodup_append_comm.1 (List.nodup_cons.2 ⟨fun here => ?_, ((windowLaw_iff s).1 law).2⟩)⟩
  · rw [State.standing, List.length_append, List.length_map]
    exact room
  · obtain ⟨e, mem, key⟩ := List.mem_map.1 here
    exact free ⟨e, mem, congrArg Prod.fst key, congrArg Prod.snd key⟩

/-- The keys that are left are no more and as different as they were. -/
theorem WindowLaw.of_sublist (law : WindowLaw s) (fewer : t.standing.keys.Sublist s.standing.keys) : WindowLaw t := by
  obtain ⟨few, distinct⟩ := (windowLaw_iff s).1 law
  exact (windowLaw_iff t).2 ⟨fewer.length_le.trans few, distinct.sublist fewer⟩

/-- Every reset empties the window (R102), but RESTART does nothing while RST is low. -/
theorem exec_reset_keys {c : Instr} (reset : isReset c = true) (taken : exec c s = .next t) :
    t.standing.keys.Sublist s.standing.keys := by
  unfold isReset at reset
  split at reset
  · cases taken
    exact List.nil_sublist _
  · cases taken
    exact List.nil_sublist _
  · cases taken
    unfold State.onFrame
    split
    · exact List.Sublist.refl _
    · exact List.nil_sublist _
  · cases reset

theorem exec_windowLaw (c : Instr) (law : WindowLaw s) (taken : exec c s = .next t) : WindowLaw t := by
  cases reset : isReset c with
  | true => exact law.of_sublist (exec_reset_keys reset taken)
  | false =>
    by_cases accept : ∃ arriving, c = .hostRequestAccept arriving
    · obtain ⟨arriving, rfl⟩ := accept
      obtain same | ⟨r, allowed, appended⟩ := execHostRequestAccept_cases taken
      · exact law.of_sublist (by rw [same])
      · exact law.append allowed appended
    · by_cases delivery : c = .responseDelivery
      · subst delivery
        obtain ⟨keys, fewer, delivered⟩ := execResponseDelivery_cases taken
        exact law.of_sublist (by rw [delivered]; exact fewer)
      · have kept := (exec_stands c s reset t taken).keys (fun arriving here => accept ⟨arriving, here⟩) delivery
        exact law.of_sublist (by rw [kept])

/-- Settles O5: an idle step changes nothing, and any other takes a command. -/
theorem everyStepKeepsTheWindowLaw : Obligations.EveryStepKeepsTheWindowLaw := by
  intro s t law stepped
  unfold step at stepped
  split at stepped
  · cases stepped
    exact law
  · next rest _ => exact exec_windowLaw _ (s := s.withPending rest) law stepped

/-- Settles O11: each setting is part of what only its own commands change. -/
theorem settingsChangeOnlyByTheirCommands : Obligations.SettingsChangeOnlyByTheirCommands := by
  intro c s t taken noReset
  have changed := exec_stands c s noReset t taken
  exact ⟨changed.regions, changed.area, changed.policy⟩

end Sys2Proof.Machine
end

/-! # The region commands (O24, O25) -/

section
-- One proof after another: the threads of many at once outgrow the check's memory limit.
set_option Elab.async false
namespace Sys2Proof.Machine

/-! ## The operands (R190, R203) -/

theorem regionIndex_eq_some {index : Byte} (inside : index.toNat < 16) : regionIndex index = some ⟨index.toNat, inside⟩ :=
  dif_pos inside

theorem regionIndex_eq_none {index : Byte} (outside : 16 ≤ index.toNat) : regionIndex index = none :=
  dif_neg (Nat.not_lt.2 outside)

theorem modeOfCode_eq_some {mode : Byte} (assigned : mode.toNat < 2) :
    modeOfCode mode = some (if mode = 1 then .logged else .pass) := by
  obtain rfl | rfl : mode = 0 ∨ mode = 1 := by bv_omega
  · rfl
  · rfl

theorem modeOfCode_eq_none {mode : Byte} (unassigned : 2 ≤ mode.toNat) : modeOfCode mode = none := by
  rw [modeOfCode, if_neg, if_neg]
  · rintro rfl
    exact absurd unassigned (by decide)
  · rintro rfl
    exact absurd unassigned (by decide)

/-- Bits 4 to 7 of a byte are clear exactly if it is below 16. -/
theorem highBits_eq_zero_iff (b : Byte) : b.extractLsb' 4 4 = 0 ↔ b.toNat < 16 := by
  have small : b.toNat < 256 := b.isLt
  rw [← BitVec.toNat_inj, BitVec.extractLsb'_toNat, Nat.shiftRight_eq_div_pow]
  change b.toNat / 16 % 16 = 0 ↔ b.toNat < 16
  omega

theorem maskOfByte_eq_some {mask : Byte} (inside : mask.toNat < 16) : maskOfByte mask = some (BitVec.ofNat 4 mask.toNat) := by
  rw [maskOfByte, if_pos ((highBits_eq_zero_iff mask).2 inside)]
  rfl

theorem maskOfByte_eq_none {mask : Byte} (outside : 16 ≤ mask.toNat) : maskOfByte mask = none :=
  if_neg fun clear => Nat.not_lt.2 outside ((highBits_eq_zero_iff mask).1 clear)

section
variable {index : Byte} {base size : Num} {mode mask : Byte}

/-- An argument of SET_REGION is outside its range (R81, R190, R203). -/
def OutsideRegion (index : Byte) (base size : Num) (mode mask : Byte) : Prop :=
  16 ≤ index.toNat ∨ base.toNat % 4096 ≠ 0 ∨ size = 0 ∨ size.toNat % 4096 ≠ 0 ∨
    2 ^ 32 < base.toNat + size.toNat ∨ 2 ≤ mode.toNat ∨ 16 ≤ mask.toNat

theorem regionArguments_eq_none (outside : OutsideRegion index base size mode mask) :
    regionArguments index base size mode mask = none := by
  unfold regionArguments
  split
  · next i m w indexed moded masked =>
    refine if_neg fun ⟨aligned, nonempty, whole, fits⟩ => ?_
    obtain high | misaligned | empty | ragged | beyond | unassigned | wide := outside
    · cases (regionIndex_eq_none high).symm.trans indexed
    · exact misaligned aligned
    · exact nonempty (congrArg BitVec.toNat empty)
    · exact ragged whole
    · exact Nat.not_le.2 beyond fits
    · cases (modeOfCode_eq_none unassigned).symm.trans moded
    · cases (maskOfByte_eq_none wide).symm.trans masked
  · rfl

/-- The region that SET_REGION's arguments describe (R81). -/
def regionOf (base size : Num) (mode mask : Byte) : Region :=
  { valid := true, base := base, size := size.toNat, mode := if mode = 1 then .logged else .pass,
    mask := BitVec.ofNat 4 mask.toNat }

theorem regionArguments_eq_some (inside : ¬OutsideRegion index base size mode mask) : ∃ indexed : index.toNat < 16,
    regionArguments index base size mode mask = some (⟨index.toNat, indexed⟩, regionOf base size mode mask) := by
  simp only [OutsideRegion, not_or, not_not, Nat.not_le, Nat.not_lt] at inside
  obtain ⟨indexed, aligned, nonempty, whole, fits, moded, masked⟩ := inside
  refine ⟨indexed, ?_⟩
  simp only [regionArguments, regionIndex_eq_some indexed, modeOfCode_eq_some moded, maskOfByte_eq_some masked]
  exact if_pos ⟨aligned, fun empty => nonempty (BitVec.eq_of_toNat_eq empty), whole, fits⟩

end

/-! ## The tests (R81) -/

section
variable {s : State}

/-- Two ranges of bytes meet. -/
def Meets (start length base size : Nat) : Prop := base < start + length ∧ start < base + size

theorem rangesOverlap_iff (a m b n : Nat) : rangesOverlap a m b n = true ↔ Meets b n a m := decide_eq_true_iff

theorem State.overlapsRegion_iff (i : Fin 16) (r : Region) :
    s.overlapsRegion i r = true ↔ ∃ j : Fin 16, j.val ≠ i.val ∧ s.regions[j].valid = true ∧
      Meets s.regions[j].base.toNat s.regions[j].size r.base.toNat r.size := by
  simp only [State.overlapsRegion, List.any_eq_true, List.mem_finRange, true_and, Bool.and_eq_true, bne_iff_ne,
    rangesOverlap_iff, and_assoc, ne_eq, Fin.ext_iff]

theorem State.overlapsLog_iff (r : Region) :
    s.overlapsLog r = true ↔ r.mode = .logged ∧ ∃ area, s.log.area = some area ∧
      Meets area.base.toNat area.size r.base.toNat r.size := by
  unfold State.overlapsLog
  split
  · next unset => simp [unset]
  · next area set => simp [set, rangesOverlap_iff]

theorem WaitList.isEmpty_eq_false_iff (w : WaitList) : (!w.isEmpty) = true ↔ w.hit ≠ none ∨ w.own ≠ none := by
  rw [Bool.not_eq_true', ← Bool.not_eq_true, WaitList.isEmpty_iff, not_and_or]

/-- The entry has a run that is reading, deferred or abandoned, or waits for a record (R81). -/
theorem Entry.inCapture_iff (e : Entry) :
    e.inCapture = true ↔
      (∃ run ∈ e.runs, run.isReading = true ∨ run.isDeferred = true ∨ run.isAbandoned = true) ∨
        e.waits.hit ≠ none ∨ e.waits.own ≠ none := by
  simp only [Entry.inCapture, Bool.or_eq_true, List.any_eq_true, WaitList.isEmpty_eq_false_iff, or_assoc]

/-- A window entry whose snapshot names the index is in capture (R81, R83). -/
theorem State.regionInUse_iff (i : Fin 16) :
    s.regionInUse i = true ↔ ∃ e ∈ s.window, ∃ snap, e.snapshot = some snap ∧ snap.index.val = i.val ∧
      ((∃ run ∈ e.runs, run.isReading = true ∨ run.isDeferred = true ∨ run.isAbandoned = true) ∨
        e.waits.hit ≠ none ∨ e.waits.own ≠ none) := by
  rw [State.regionInUse, List.any_eq_true]
  refine exists_congr fun e => and_congr_right fun _ => ?_
  rw [Bool.and_eq_true, Entry.inCapture_iff]
  cases e.snapshot with
  | none => simp
  | some snap => simp [Fin.ext_iff]

/-- The region of SET_REGION meets a valid one at another index, or is LOGGED and meets the log area (R81). -/
theorem State.overlaps_iff {index : Nat} (indexed : index < 16) (base size : Num) (mode mask : Byte) :
    (s.overlapsRegion ⟨index, indexed⟩ (regionOf base size mode mask) ||
        s.overlapsLog (regionOf base size mode mask)) = true ↔
      (∃ j : Fin 16, j.val ≠ index ∧ s.regions[j].valid = true ∧
        Meets s.regions[j].base.toNat s.regions[j].size base.toNat size.toNat) ∨
      (mode = 1 ∧ ∃ area, s.log.area = some area ∧ Meets area.base.toNat area.size base.toNat size.toNat) := by
  have logged : (regionOf base size mode mask).mode = .logged ↔ mode = 1 := by simp [regionOf]
  rw [Bool.or_eq_true, State.overlapsRegion_iff, State.overlapsLog_iff, logged]
  rfl

/-! ## The commands -/

section
variable (running : s.rstLow = false)
include running

theorem exec_setRegion (index : Byte) (base size : Num) (mode mask : Byte) :
    exec (.setRegion index base size mode mask) s = .next (
      if s.log.engine.rollsBack then s.refuse .state
      else
        match regionArguments index base size mode mask with
        | none => s.refuse .range
        | some (i, r) =>
          if s.overlapsRegion i r || s.overlapsLog r then s.refuse .overlap
          else if s.regionInUse i then s.refuse .inUse
          else (s.withRegions (s.regions.set i r)).respond .done []) :=
  congrArg Host.Outcome.next (State.onFrame_eq running _)

/-- With its arguments in their ranges SET_REGION tests for an overlap and for an entry in use (R81). -/
theorem exec_setRegion_inside {index : Byte} {base size : Num} {mode mask : Byte} (steady : ¬s.log.engine.rollsBack = true)
    (inside : ¬OutsideRegion index base size mode mask) : ∃ indexed : index.toNat < 16,
    exec (.setRegion index base size mode mask) s = .next (
      if s.overlapsRegion ⟨index.toNat, indexed⟩ (regionOf base size mode mask) || s.overlapsLog (regionOf base size mode mask)
      then s.refuse .overlap
      else if s.regionInUse ⟨index.toNat, indexed⟩ then s.refuse .inUse
      else (s.withRegions (s.regions.set index.toNat (regionOf base size mode mask))).respond .done []) := by
  obtain ⟨indexed, arguments⟩ := regionArguments_eq_some inside
  exact ⟨indexed, by rw [exec_setRegion running, if_neg steady, arguments]⟩

theorem exec_clearRegion (index : Byte) :
    exec (.clearRegion index) s = .next (
      if s.log.engine.rollsBack then s.refuse .state
      else
        match regionIndex index with
        | none => s.refuse .range
        | some i =>
          if s.regionInUse i then s.refuse .inUse
          else (s.withRegions (s.regions.set i invalidRegion)).respond .done []) :=
  congrArg Host.Outcome.next (State.onFrame_eq running _)

end
end

/-- Settles O24: each test is read off its own lemma, and the tests before it have failed. -/
theorem setRegionIsTestedInOrder : Obligations.SetRegionIsTestedInOrder := by
  intro s index base size mode mask running
  dsimp only
  rw [← EngineState.rollsBack_iff]
  refine ⟨fun rolls => ?_, fun steady outside => ?_, fun steady inside overlap => ?_, fun steady inside apart used => ?_,
    fun steady inside apart unused => ?_⟩
  · rw [exec_setRegion running, if_pos rolls]
    rfl
  · rw [exec_setRegion running, if_neg steady, regionArguments_eq_none outside]
    rfl
  · obtain ⟨indexed, answer⟩ := exec_setRegion_inside running steady inside
    rw [answer, if_pos ((State.overlaps_iff indexed base size mode mask).2 overlap)]
    rfl
  · obtain ⟨indexed, answer⟩ := exec_setRegion_inside running steady inside
    rw [answer, if_neg (mt (State.overlaps_iff indexed base size mode mask).1 apart),
      if_pos ((s.regionInUse_iff ⟨index.toNat, indexed⟩).2 used)]
    rfl
  · obtain ⟨indexed, answer⟩ := exec_setRegion_inside running steady inside
    rw [if_neg (mt (State.overlaps_iff indexed base size mode mask).1 apart),
      if_neg (mt (s.regionInUse_iff ⟨index.toNat, indexed⟩).1 unused)] at answer
    exact ⟨indexed, answer⟩

/-- Settles O25: each test is read off its own lemma, and the tests before it have failed. -/
theorem clearRegionIsTestedInOrder : Obligations.ClearRegionIsTestedInOrder := by
  intro s index running
  dsimp only
  rw [← EngineState.rollsBack_iff, exec_clearRegion running]
  refine ⟨fun rolls => ?_, fun steady outside => ?_, fun steady indexed used => ?_, fun steady unused indexed => ?_⟩
  · rw [if_pos rolls]
    rfl
  · rw [if_neg steady, regionIndex_eq_none outside]
    rfl
  · rw [if_neg steady, regionIndex_eq_some indexed]
    dsimp only
    rw [if_pos ((s.regionInUse_iff ⟨index.toNat, indexed⟩).2 used)]
    rfl
  · rw [if_neg steady, regionIndex_eq_some indexed]
    dsimp only
    rw [if_neg (mt (s.regionInUse_iff ⟨index.toNat, indexed⟩).1 unused)]
    rfl

end Sys2Proof.Machine
end

/-! # The resets, and FREEZE and THAW (O2, O3, O20) -/

section
-- One proof after another: the threads of many at once outgrow the check's memory limit.
set_option Elab.async false
namespace Sys2Proof.Machine

/-- Settles O2: every value is the one that `State.reset` gives; the regions are sixteen of one. -/
theorem resetLeavesTheStatedValues : Obligations.ResetLeavesTheStatedValues := by
  refine ⟨?_, rfl, ?_, fun i => Vector.getElem_replicate i.isLt, rfl⟩
  · repeat' constructor
  · repeat' constructor

/-- Every link command is the taking of a frame (R181). -/
theorem exec_linkCommand {c : Instr} (link : linkCommand c = true) (s : State) :
    ∃ take : State → State, exec c s = .next (s.onFrame take) := by
  cases c
  case nop | readStatus | setRegion | clearRegion | readRegion | setLog | format | attach | detach | checkpoint
    | release | discard | rollback | halt | resume | freeze | thaw | setPolicy | readPolicy | readMark | popEvent
    | clearSummary | restart => exact ⟨_, rfl⟩
  all_goals cases link

section
variable {s : State}

/-- While RST is low no link frame is taken (R146, R181). -/
theorem State.onFrame_low (low : s.rstLow = true) (take : State → State) : s.onFrame take = s := if_pos low

theorem exec_hostRequestAccept_low (low : s.rstLow = true) (arriving : Option HostRequest) :
    exec (.hostRequestAccept arriving) s =
      .next { s with host := { s.host with channel := s.host.channel ++ arriving.toList } } := if_pos low

theorem exec_strobe_low (low : s.rstLow = true) : exec .ckptStrobe s = .next s ∧ exec .faultStrobe s = .next s :=
  ⟨congrArg Host.Outcome.next (if_pos low), congrArg Host.Outcome.next (if_pos low)⟩

theorem exec_memoryGrant_low (low : s.rstLow = true) : exec .memoryGrant s = .next s :=
  if_pos (by rw [low, Bool.true_or])

end

/-- Settles O3: the three resets are `State.resetTo`, and RST held low is the first test of whatever it stops. -/
theorem everyResetGivesTheResetValues : Obligations.EveryResetGivesTheResetValues := by
  intro s
  refine ⟨rfl, rfl, rfl, fun running => congrArg Host.Outcome.next (State.onFrame_eq running _), fun low => ?_⟩
  refine ⟨fun c link => ?_, fun bits => congrArg Host.Outcome.next (State.onFrame_low low _), (exec_strobe_low low).1,
    (exec_strobe_low low).2, exec_memoryGrant_low low, exec_hostRequestAccept_low low⟩
  obtain ⟨take, taken⟩ := exec_linkCommand link s
  rw [taken, State.onFrame_low low]

theorem Entry.heldFor_iff (e : Entry) (cause : HoldCause) :
    e.heldFor cause = true ↔ ∃ timer, e.phase = .held cause timer := by
  unfold Entry.heldFor
  split
  · next timer held => simp [held]
  · next unheld => exact iff_of_false Bool.false_ne_true fun ⟨timer, held⟩ => unheld _ timer held

/-- Settles O20: THAW with the flag set is the release of the holds for FREEZE, entry by entry. -/
theorem freezeAndThawMoveTheFlag : Obligations.FreezeAndThawMoveTheFlag := by
  intro s running
  have thaws : exec .thaw s = .next (s.respond .done []).thaw :=
    congrArg Host.Outcome.next (State.onFrame_eq running _)
  refine ⟨congrArg Host.Outcome.next (State.onFrame_eq running _), fun thawed => ?_, fun frozen => ?_⟩
  · rw [thaws, State.thaw, if_neg (by simp [thawed])]
    rfl
  · rw [thaws, State.thaw, if_pos (by exact frozen)]
    refine congrArg Host.Outcome.next
      (State.eq_of_blocks (window := List.map_congr_left fun e _ => ?_) (link := rfl))
    by_cases held : e.heldFor .freeze = true
    · obtain ⟨timer, phase⟩ := (e.heldFor_iff .freeze).1 held
      rw [if_pos held, phase]
      rfl
    · rw [if_neg held]
      split
      · next timer phase => exact absurd ((e.heldFor_iff .freeze).2 ⟨timer, phase⟩) held
      · rfl

end Sys2Proof.Machine
end

/-! # Acceptance of ROLLBACK (O52) -/

section
-- One proof after another: the threads of many at once outgrow the check's memory limit.
set_option Elab.async false
namespace Sys2Proof.Machine

/-- The depth counts the marks newer than the target (R103). -/
theorem markAtDepth_newer (older newer : List Mark) (target : Mark) :
    markAtDepth (older ++ target :: newer) newer.length = some target := by
  rw [markAtDepth, List.reverse_append, List.reverse_cons, List.append_assoc, ← List.length_reverse (as := newer),
    List.getElem?_append_right (le_refl _), Nat.sub_self]
  rfl

/-! ## The entries cancelled and held (R105) -/

theorem cancelledByRollback_eq (e : Entry) :
    e.cancelledByRollback = decide (e.isLoggedWrite = true ∧
      (e.phase = .ordered ∨ e.isHeld = true ∨ e.phase = .capturing ∨ e.phase = .ready)) := by
  rw [Bool.eq_iff_iff]
  simp [Entry.cancelledByRollback, Entry.isOrdered, Entry.isReady, or_assoc]

theorem Entry.heldByRollback_iff (e : Entry) :
    e.heldByRollback = true ↔ e.isLoggedRead = true ∧ (e.phase = .ordered ∨ e.phase = .ready) := by
  simp [Entry.heldByRollback, Entry.isOrdered, Entry.isReady]

/-- The entry after the acceptance's holds (R105). -/
def Entry.heldAtRollback (e : Entry) (timer : HoldTimer) : Entry :=
  if e.heldByRollback then e.hold .rollback timer else e

/-- A logged read is not cancelled, nor does its hold change that. -/
theorem Entry.not_cancelled_of_held {e : Entry} (held : e.heldByRollback = true) (timer : HoldTimer) :
    e.cancelledByRollback = false ∧ (e.hold .rollback timer).cancelledByRollback = false := by
  have read : e.isLoggedWrite = false := Entry.isLoggedWrite_eq_false (.inr (e.heldByRollback_iff.1 held).1)
  exact ⟨Bool.and_eq_false_imp.2 fun write => absurd (read.symm.trans write) Bool.false_ne_true,
    Bool.and_eq_false_imp.2 fun write => absurd (read.symm.trans write) Bool.false_ne_true⟩

/-- A hold at the acceptance makes no difference to what is cancelled. -/
theorem Entry.cancelled_heldAtRollback (e : Entry) (timer : HoldTimer) :
    (e.heldAtRollback timer).cancelledByRollback = e.cancelledByRollback := by
  unfold Entry.heldAtRollback
  split
  · next held =>
    obtain ⟨before, after⟩ := Entry.not_cancelled_of_held held timer
    rw [before, after]
  · rfl

/-- The entries cancelled are those of the window before the holds. -/
theorem filter_cancelled_heldAtRollback (window : List Entry) (timer : HoldTimer) :
    (window.map fun e => e.heldAtRollback timer).filter Entry.cancelledByRollback =
      window.filter Entry.cancelledByRollback := by
  rw [List.filter_map, List.filter_congr fun e _ => e.cancelled_heldAtRollback timer]
  refine map_unchanged fun e mem => if_neg fun held => ?_
  exact absurd (List.mem_filter.1 mem).2 (by simp [(Entry.not_cancelled_of_held held timer).1])

/-! ## The acceptance -/

/-- The entry after the acceptance of a rollback (R105). -/
def Entry.afterRollback (e : Entry) (timer : HoldTimer) : Entry :=
  if e.cancelledByRollback then e.abandon.finish .refused [] else e.heldAtRollback timer

theorem Entry.afterRollback_eq (e : Entry) (timer : HoldTimer) :
    (if (e.heldAtRollback timer).cancelledByRollback then (e.heldAtRollback timer).abandon.finish .refused []
      else e.heldAtRollback timer) = e.afterRollback timer := by
  rw [Entry.cancelled_heldAtRollback, Entry.afterRollback]
  refine ite_congr rfl (fun cancelled => ?_) fun _ => rfl
  rw [Entry.heldAtRollback, if_neg]
  exact fun held => absurd cancelled (by simp [(Entry.not_cancelled_of_held held timer).1])

/-- QUIESCING is entered, the cursor set and the logged reads held: the acceptance before its refusals (R104, R105). -/
def State.holdForRollback (s : State) (target : Mark) : State :=
  { s with
    log := { s.log with engine := .quiescing }
    rollback := some { target := target.epoch, applied := 0, replay := none }
    window := s.window.map fun e => e.heldAtRollback s.newTimer }

theorem State.acceptRollback_refuses (s : State) (target : Mark) :
    s.acceptRollback target =
      ((s.holdForRollback target).refuseEntries Entry.cancelledByRollback .cancelled).refreshPorts := rfl

theorem State.holdForRollback_refused_window (s : State) (target : Mark) :
    ((s.holdForRollback target).refuseEntries Entry.cancelledByRollback .cancelled).window =
      s.window.map fun e => e.afterRollback s.newTimer := by
  rw [State.refuseEntries_window _ .cancelled fun _ => rfl, State.holdForRollback, List.map_map]
  exact List.map_congr_left fun e _ => e.afterRollback_eq s.newTimer

/-- What the acceptance of a rollback in ARMED changes (R104, R105). -/
theorem State.acceptRollback_eq {s : State} (armed : s.log.engine = .armed) (target : Mark) :
    ∃ reserved freed walkOwed bypass offered, reserved ≤ s.log.reserved ∧ s.acceptRollback target = { s with
      log := { s.log with engine := .quiescing, reserved := reserved }
      rollback := some { target := target.epoch, applied := 0, replay := none }
      window := s.window.map fun e => e.afterRollback s.newTimer
      staging := s.staging.freeRuns freed
      capture := { s.capture with walkOwed := walkOwed }
      port := { s.port with bypass := bypass }
      host := { s.host with offered := offered }
      events := refusalEvents s.log.currentEpoch .cancelled (s.window.filter Entry.cancelledByRollback) s.events } := by
  have window := s.holdForRollback_refused_window target
  have refused := (s.holdForRollback target).refuseEntries_eq Entry.cancelledByRollback .cancelled
  have cancelled : (s.holdForRollback target).window.filter Entry.cancelledByRollback =
      s.window.filter Entry.cancelledByRollback := filter_cancelled_heldAtRollback _ _
  have epoch : (s.holdForRollback target).log.currentEpoch = s.log.currentEpoch := by
    rw [LogController.currentEpoch_eq _ (by simp [State.holdForRollback]), LogController.currentEpoch_eq _ (by simp [armed])]
    rfl
  rw [epoch, cancelled] at refused
  rw [s.acceptRollback_refuses]
  generalize (s.holdForRollback target).refuseEntries Entry.cancelledByRollback .cancelled = u at window refused ⊢
  have changed : u = u.withWindow (s.window.map fun e => e.afterRollback s.newTimer) := by
    rw [← window]
    rfl
  have accepted := changed.trans (congrArg (State.withWindow · _) refused)
  exact ⟨_, _, _, _, _, Nat.sub_le _ _, (congrArg State.refreshPorts accepted).trans (State.refreshPorts_eq _)⟩

/-- The run slots that the acceptance frees held no record (R70). -/
theorem Staging.mem_freeRuns_record (b : Staging) (ids : List Nat) (q : Num) :
    .record q ∈ (b.freeRuns ids).runSlots ↔ .record q ∈ b.runSlots := by
  simp [Staging.freeRuns]

theorem exec_rollback_accepted {s : State} {depth : Byte} {target : Mark} (running : s.rstLow = false)
    (armed : s.log.engine = .armed) (named : markAtDepth s.log.marks depth.toNat = some target) :
    exec (.rollback depth) s = .next ((s.respond .started []).acceptRollback target) := by
  refine (congrArg Host.Outcome.next (State.onFrame_eq running _)).trans ?_
  rw [if_pos armed, named]

/-- The entry after the acceptance, as the manual lists the cases (R105). -/
theorem afterRollback_cases (e : Entry) (timer : HoldTimer) :
    e.afterRollback timer =
      if e.isLoggedWrite = true ∧ (e.phase = .ordered ∨ e.isHeld = true ∨ e.phase = .capturing ∨ e.phase = .ready) then
        { e with phase := .done .refused [], runs := abandonRuns e.runs, waits := { hit := none, own := none },
                 payload := [] }
      else if e.isLoggedRead ∧ (e.phase = .ordered ∨ e.phase = .ready) then { e with phase := .held .rollback timer }
      else e := by
  rw [Entry.afterRollback, cancelledByRollback_eq]
  refine if_congr decide_eq_true_iff rfl ?_
  exact if_congr e.heldByRollback_iff rfl rfl

/-- Settles O52: `acceptRollback_eq` gives the whole state, and the entries are those of `afterRollback_cases`. -/
theorem rollbackAcceptanceTargetsTheMark : Obligations.RollbackAcceptanceTargetsTheMark := by
  intro s depth older newer target running armed marks count
  dsimp only
  have named : markAtDepth s.log.marks depth.toNat = some target := by
    rw [marks, ← count]
    exact markAtDepth_newer older newer target
  have cancelled : s.window.filter Entry.cancelledByRollback = s.window.filter fun e => decide (e.isLoggedWrite = true ∧
      (e.phase = .ordered ∨ e.isHeld = true ∨ e.phase = .capturing ∨ e.phase = .ready)) :=
    List.filter_congr fun e _ => cancelledByRollback_eq e
  obtain ⟨reserved, freed, walkOwed, bypass, offered, less, accepted⟩ :=
    State.acceptRollback_eq (s := s.respond .started []) armed target
  have answer := exec_rollback_accepted running armed named
  rw [accepted] at answer
  refine ⟨_, answer, rfl, rfl, rfl, less, rfl, rfl, rfl, rfl, fun q => s.staging.mem_freeRuns_record freed q, ?_, ?_⟩
  · exact congrArg (refusalEvents s.log.currentEpoch .cancelled · s.events) cancelled
  · exact List.map_congr_left fun e _ => afterRollback_cases e s.newTimer

end Sys2Proof.Machine
end

/-! # The end of an access, the delivery of a response and an expired hold (O59) -/

section
-- One proof after another: the threads of many at once outgrow the check's memory limit.
set_option Elab.async false
namespace Sys2Proof.Machine

/-! ## The response to an access (R90) -/

section
variable {s : State} {before after : List Entry} {e : Entry} {o : Outstanding} {rest : List Outstanding}
  {response : MemResponse}

/-- The response to the access of an issued entry makes it DONE (R90, R155). -/
theorem exec_hostAccessResponse (law : WindowLaw s) (window : s.window = before ++ e :: after)
    (outstanding : s.port.outstanding = o :: rest) (orphan : o.orphan = false) (owner : o.owner = .host e.requester e.tag)
    (issued : e.phase = .issued) (fits : responseFits o.request response = true) :
    exec (.hostAccessResponse response) s = .next
      ((s.freeSlot.updateEntry e.requester e.tag fun e => e.complete response).postDataError e response).refreshPorts := by
  have oldest := State.oldestRequest_eq outstanding orphan
  have found := law.findEntry window window ⟨rfl, rfl⟩
  obtain ⟨_, _, _, _⟩ := o
  cases owner
  refine (?_ : execHostAccessResponse response s = _)
  simp [execHostAccessResponse, oldest, found, fits, issued]

/-- What an access's end changes: its entry, the slot of its request, the ports' bookkeeping and the Event Queue. -/
theorem exec_hostAccessResponse_ends {left : Entry} {events : EventQueue} (law : WindowLaw s)
    (window : s.window = before ++ e :: after) (outstanding : s.port.outstanding = o :: rest) (orphan : o.orphan = false)
    (owner : o.owner = .host e.requester e.tag) (issued : e.phase = .issued)
    (fits : responseFits o.request response = true) (completed : e.complete response = left)
    (posted : (s.postDataError e response).events = events) :
    ∃ t : State, exec (.hostAccessResponse response) s = .next t ∧
      t = { s with window := before ++ left :: after, port := t.port, host := t.host, events := events } ∧
      t.port.outstanding = rest ∧ t.host.channel = s.host.channel ∧ t.host.lastServed = s.host.lastServed ∧
      (s.host.offered ≠ none → t.host.offered = s.host.offered) := by
  have answer := exec_hostAccessResponse law window outstanding orphan owner issued fits
  have updated : (s.freeSlot.updateEntry e.requester e.tag fun e => e.complete response).postDataError e response =
      { s with
        port := { s.port with outstanding := rest }, window := before ++ left :: after, events := events } := by
    have changed := WindowLaw.updateEntry (s := s.freeSlot) law window fun e => e.complete response
    rw [completed] at changed
    have ended : s.freeSlot.updateEntry e.requester e.tag (fun e => e.complete response) =
        { s with port := { s.port with outstanding := rest }, window := before ++ left :: after } :=
      (congrArg s.freeSlot.withWindow changed).trans (by rw [State.freeSlot_eq outstanding]; rfl)
    rw [ended, ← posted]
    cases response <;> rfl
  rw [updated, State.refreshPorts_eq] at answer
  refine ⟨_, answer, rfl, rfl, rfl, rfl, fun offered => ?_⟩
  obtain ⟨r, offered⟩ := Option.ne_none_iff_exists'.1 offered
  simp [offered]

/-- The bytes of a read's transaction begin at its place in the span (R90). -/
theorem Entry.readData_eq (e : Entry) (span : List Byte) :
    e.readData span = (span.drop (e.address.toNat % 16)).take e.length := by
  rw [Entry.readData, spanStart, ← Nat.mod_eq_sub_div_mul]

end

/-! ## The delivery of a response (R99 to R101) -/

/-- The oldest entry of a requester in a window is DONE (R99). -/
def DueTo (window : List Entry) (q : Requester) : Prop :=
  ∃ older x newer, window = older ++ x :: newer ∧ x.requester = q ∧ (∀ y ∈ older, y.requester ≠ q) ∧ x.isDone = true

theorem State.deliverable_iff (s : State) (q : Requester) : s.deliverable q = true ↔ DueTo s.window q := by
  unfold State.deliverable
  split
  · next x oldest =>
    obtain ⟨here, older, newer, split, others⟩ := List.find?_eq_some_iff_append.1 oldest
    refine ⟨fun done => ⟨older, x, newer, split, by simpa using here, by simpa using others, done⟩, ?_⟩
    rintro ⟨older', x', newer', split', here', others', done⟩
    have first := find?_behind (fun e : Entry => e.requester == q) older' newer' x' (by simpa using others')
      (by simpa using here')
    rw [← split', oldest] at first
    cases first
    exact done
  · next none =>
    refine iff_of_false Bool.false_ne_true fun ⟨older, x, newer, split, here, _⟩ => ?_
    exact List.find?_eq_none.1 none x (by simp [split]) (by simpa using here)

/-- The requesters stand in the order of the rotation, each once (R100). -/
theorem deliveryOrder_pairwise (r : Requester) :
    (deliveryOrder r).Pairwise fun q q' => (q - r - 1).val ≤ (q' - r - 1).val := by
  revert r
  decide

theorem mem_deliveryOrder (r q : Requester) : q ∈ deliveryOrder r := by
  revert r q
  decide

theorem removeOldest_append {requester : Requester} {before after : List Entry} {e : Entry} (here : e.requester = requester)
    (others : ∀ x ∈ before, x.requester ≠ requester) : removeOldest requester (before ++ e :: after) = before ++ after := by
  induction before with
  | nil => exact if_pos here
  | cons x rest ih =>
    rw [List.forall_mem_cons] at others
    rw [List.cons_append, removeOldest, if_neg others.1, ih others.2]
    rfl

/-- The arbiter's choice: none if none is due, else the one that comes first in the rotation (R100). -/
theorem find?_deliveryOrder (r : Requester) (due : Requester → Bool) :
    ((deliveryOrder r).find? due = none ↔ ∀ q, ¬due q = true) ∧
      ∀ q, (deliveryOrder r).find? due = some q →
        due q = true ∧ ∀ q', due q' = true → (q - r - 1).val ≤ (q' - r - 1).val := by
  refine ⟨List.find?_eq_none.trans ⟨fun idle q => idle q (mem_deliveryOrder r q), fun idle q _ => idle q⟩, ?_⟩
  intro q chosen
  obtain ⟨here, before, behind, order, others⟩ := List.find?_eq_some_iff_append.1 chosen
  refine ⟨here, fun q' here' => ?_⟩
  have mem := mem_deliveryOrder r q'
  rw [order, List.mem_append, List.mem_cons] at mem
  have rotation := deliveryOrder_pairwise r
  rw [order, List.pairwise_append, List.pairwise_cons] at rotation
  obtain ⟨_, ⟨later, _⟩, _⟩ := rotation
  obtain earlier | rfl | later' := mem
  · exact absurd here' (by simpa using others q' earlier)
  · exact le_refl _
  · exact later q' later'

theorem exec_responseDelivery {s : State} {before after : List Entry} {e : Entry}
    (window : s.window = before ++ e :: after) (offered : s.host.offered = some e.requester)
    (oldest : ∀ x ∈ before, x.requester ≠ e.requester) :
    exec .responseDelivery s = .next (State.refreshPorts
      { s with window := before ++ after, host := { s.host with offered := none, lastServed := e.requester } }) := by
  refine (?_ : execResponseDelivery s = _)
  rw [execResponseDelivery, offered]
  dsimp only
  rw [window, removeOldest_append rfl oldest]
  rfl

/-! ## An expired hold (R95, R96) -/

theorem Entry.expired_iff (e : Entry) :
    e.expired = true ↔ ∃ cause timer, e.phase = .held cause timer ∧ timer.limit ≠ 0 ∧ timer.limit ≤ timer.elapsed := by
  unfold Entry.expired
  split
  · next cause timer held => simp [held]
  · next unheld => exact iff_of_false Bool.false_ne_true fun ⟨cause, timer, held, _⟩ => unheld cause timer held

theorem State.refuseEntries_reserved_le (s : State) (p : Entry → Bool) (reason : RefusalReason) :
    (s.refuseEntries p reason).log.reserved ≤ s.log.reserved := by
  rw [State.refuseEntries_eq]
  exact Nat.sub_le _ _

theorem exec_holdTimeout {s : State} {before after : List Entry} {e : Entry} (window : s.window = before ++ e :: after)
    (expired : e.expired = true) (oldest : ∀ x ∈ before, x.expired = false) :
    exec .holdTimeout s =
      .next (s.refuseEntries (fun o => o.hasKey e.requester e.tag) .holdTimeout).refreshPorts := by
  have found : s.window.find? Entry.expired = some e := by
    rw [window]
    exact find?_behind _ _ _ _ oldest expired
  refine (?_ : execHoldTimeout s = _)
  rw [execHoldTimeout, found]

/-- Settles O59: the three happenings by their own lemmas, the entry being the one of its key. -/
theorem accessesEndAndResponsesAreDelivered : Obligations.AccessesEndAndResponsesAreDelivered := by
  intro s before after e law window
  dsimp only
  refine ⟨fun o rest response outstanding orphan owner kind issued => ⟨fun bytes read okay length => ?_,
    fun write okay => ?_, fun error => ?_⟩, fun offered oldest => ?_, fun cause timer held limit elapsed oldest => ?_⟩
  · subst okay
    refine exec_hostAccessResponse_ends law window outstanding orphan owner issued ?_ ?_ rfl
    · simpa [responseFits, kind, read] using length
    · rw [← e.readData_eq]
      simp [Entry.complete, Entry.isWrite, read, Entry.finish, noWaits]
  · subst okay
    refine exec_hostAccessResponse_ends law window outstanding orphan owner issued ?_ ?_ rfl
    · simp [responseFits, kind, write]
    · simp [Entry.complete, Entry.isWrite, write, Entry.finish, noWaits]
  · subst error
    refine exec_hostAccessResponse_ends law window outstanding orphan owner issued rfl rfl ?_
    simp [State.postDataError, State.post, Entry.isWrite]
  · have answer := exec_responseDelivery window offered oldest
    rw [State.refreshPorts_eq] at answer
    obtain ⟨idle, chosen⟩ := find?_deliveryOrder e.requester (State.deliverable { s with
      window := before ++ after, host := { s.host with offered := none, lastServed := e.requester } })
    simp only [State.deliverable_iff] at idle chosen
    exact ⟨_, answer, rfl, rfl, rfl, rfl, idle, chosen⟩
  · have answer := exec_holdTimeout window (e.expired_iff.2 ⟨cause, timer, held, limit, elapsed⟩) fun x mem => by
      rw [← Bool.not_eq_true, Entry.expired_iff]
      rintro ⟨c, u, held', limit', elapsed'⟩
      exact (oldest x mem c u held').elim limit' fun below => Nat.not_lt.2 elapsed' below
    obtain ⟨reserved, runSlots, walkOwed, refused⟩ := State.refuseKey_eq law window .holdTimeout
    have less := s.refuseEntries_reserved_le (fun o => o.hasKey e.requester e.tag) .holdTimeout
    rw [refused] at less
    rw [refused, State.refreshPorts_eq] at answer
    exact ⟨_, answer, rfl, rfl, ⟨reserved, rfl, less⟩, rfl, rfl, rfl, rfl⟩

end Sys2Proof.Machine
end

/-! # The start, the halt and the resumption of a replay (O53, O56) -/

section
-- One proof after another: the threads of many at once outgrow the check's memory limit.
set_option Elab.async false
namespace Sys2Proof.Machine

/-! ## Taking the next record (R109) -/

/-- What a bad record leaves: HALTED, nothing in progress, and the event, which carries the newest mark's epoch (R112). -/
theorem State.recordBad_eq (s : State) (cursor : RollbackCursor) (replay : Replay) (position : Nat) (reason : BadReason) :
    s.recordBad cursor replay position reason = { s with
      log := { s.log with engine := .halted }
      rollback := some { cursor with replay := some { replay with progress := .between, haltRequested := false } }
      events := s.events.post
        { kind := .recordBad, epoch := newestEpoch s.log.marks, address := some (s.log.ringAddress position),
          requester := none, detail := .bad reason } } := by
  rw [State.recordBad, State.post, LogController.currentEpoch_eq _ (by simp [State.standHalted, State.setEngine])]
  rfl

/-- A comparison series that includes the target's mark finds something (R109). -/
theorem compareMarks_ne_none (target : Num) (position : Nat) (bound : Num) (last : Option Num) (marks : List Mark)
    (listed : ∃ m ∈ marks, m.epoch = target) : compareMarks target position bound last marks ≠ none := by
  induction marks generalizing bound last with
  | nil => simp at listed
  | cons m older ih =>
    by_cases short : position ≠ m.offset
    · simp [compareMarks_short short]
    · rw [not_not] at short
      by_cases here : m.epoch = target
      · simp [compareMarks_reached short here]
      · rw [compareMarks_cross short here]
        exact ih _ _ (by simpa [here] using listed)

theorem State.readRecord_replaces (s : State) (old : Option RollbackCursor) (running : Option Replay)
    (cursor : RollbackCursor) (replay : Replay) :
    (s.withRollback old).readRecord { cursor with replay := running } replay = s.readRecord cursor replay :=
  if_congr .rfl rfl rfl

theorem State.completeRollback_replaces (s : State) (old : Option RollbackCursor) (running : Option Replay)
    (cursor : RollbackCursor) (replay : Replay) :
    (s.withRollback old).completeRollback { cursor with replay := running } replay = s.completeRollback cursor replay :=
  if_congr .rfl rfl rfl

section
variable {s : State} {cursor : RollbackCursor} {replay : Replay} {older newer : List Mark} {span : Mark}
  (marks : s.log.marks = older ++ span :: newer) (here : span.epoch = replay.span)
  (others : ∀ m ∈ newer, m.epoch ≠ replay.span)
include marks here others

/-- Short of the span mark's offset the replay goes on in the span mark's epoch (R109). -/
theorem State.advanceReplay_short (short : replay.position ≠ span.offset) :
    s.advanceReplay cursor replay = s.readRecord cursor replay := by
  have found := compareMarks_short (target := cursor.target) (bound := replay.bound) (last := replay.lastApplied)
    (older := older.reverse) short
  rw [← marksFrom_eq older newer span _ here others, ← marks, here] at found
  exact State.advanceReplay_reads found

/-- At the span mark's offset the target is reached, and the completion step is made (R109). -/
theorem State.advanceReplay_reached (reached : replay.position = span.offset) (target : span.epoch = cursor.target) :
    s.advanceReplay cursor replay = s.completeRollback cursor replay := by
  have found := compareMarks_reached (bound := replay.bound) (last := replay.lastApplied) (older := older.reverse)
    reached target
  rw [← marksFrom_eq older newer span _ here others, ← marks, here] at found
  exact State.advanceReplay_completes found

/-- Short of the span mark's offset the record before the position is read (R109, R110). -/
theorem State.advanceReplay_short_reads (short : replay.position ≠ span.offset) (record : replay.back ≠ 0) :
    s.advanceReplay cursor replay = { s with
      rollback := some { cursor with replay := some { replay with
        progress := .reading (recordBefore s.log.ringSize replay.position replay.back) (16 * replay.back) } }
      maintOffer := some
        { step := .recordRead
          request := readRequest (s.log.ringAddress (recordBefore s.log.ringSize replay.position replay.back))
            (16 * replay.back) } } :=
  (State.advanceReplay_short marks here others short).trans (State.readRecord_reads record)

/-- Short of the span mark's offset a back length of 0 halts the replay (R109, R112; assumption 24). -/
theorem State.advanceReplay_short_stops (short : replay.position ≠ span.offset) (none : replay.back = 0) :
    s.advanceReplay cursor replay = { s with
      log := { s.log with engine := .halted }
      rollback := some { cursor with replay := some { replay with progress := .between, haltRequested := false } }
      events := s.events.post
        { kind := .recordBad, epoch := newestEpoch s.log.marks
          address := some (s.log.ringAddress (recordBefore s.log.ringSize replay.position replay.back))
          requester := Option.none, detail := .bad .form } } := by
  rw [State.advanceReplay_short marks here others short, State.readRecord_stops none, State.recordBad_eq]

/-- Going on replaces the cursor's replay: which one stood there before makes no difference (R104, R109). -/
theorem State.advanceReplay_replaces (old : Option RollbackCursor) (running : Option Replay)
    (listed : ∃ m ∈ older ++ [span], m.epoch = cursor.target) :
    (s.withRollback old).advanceReplay { cursor with replay := running } replay = s.advanceReplay cursor replay := by
  have found := compareMarks_ne_none cursor.target replay.position replay.bound replay.lastApplied
    (marksFrom s.log.marks replay.span) (by
      rw [marks, marksFrom_eq older newer span _ here others]
      simpa [or_comm] using listed)
  obtain ⟨⟨complete, span', bound, last⟩, found⟩ := Option.ne_none_iff_exists'.1 found
  cases complete
  · rw [State.advanceReplay_reads found, ← s.readRecord_replaces old running]
    exact State.advanceReplay_reads found
  · rw [State.advanceReplay_completes found, ← s.completeRollback_replaces old running]
    exact State.advanceReplay_completes found

end

/-! ## Crossing to the next older mark (R109) -/

section
variable {s : State} {cursor : RollbackCursor} {replay : Replay} {older newer : List Mark} {span : Mark}

/-- The replay crossed from a mark to the next older one: the mark just left bounds it, and nothing was applied (R109). -/
def Replay.crossed (replay : Replay) (left previous : Mark) : Replay :=
  { replay with span := previous.epoch, bound := left.firstSeq, lastApplied := none }

/-- At the offset of a span mark that is not the target's, the next older mark is compared (R109). -/
theorem compareMarks_previous {previous : Mark} (marks : s.log.marks = older ++ [previous] ++ span :: newer)
    (here : span.epoch = replay.span) (others : ∀ m ∈ newer, m.epoch ≠ replay.span)
    (reached : replay.position = span.offset) (target : span.epoch ≠ cursor.target) :
    compareMarks cursor.target replay.position replay.bound replay.lastApplied (marksFrom s.log.marks replay.span) =
      compareMarks cursor.target replay.position span.firstSeq none (previous :: older.reverse) := by
  rw [marks, marksFrom_eq _ newer span _ here others, compareMarks_cross reached target, List.reverse_concat]

/-- The next older mark lying elsewhere, a record of its epoch is read (R109). -/
theorem State.advanceReplay_crosses_short {previous : Mark} (marks : s.log.marks = older ++ [previous] ++ span :: newer)
    (here : span.epoch = replay.span) (others : ∀ m ∈ newer, m.epoch ≠ replay.span)
    (reached : replay.position = span.offset) (target : span.epoch ≠ cursor.target)
    (short : replay.position ≠ previous.offset) :
    s.advanceReplay cursor replay = s.readRecord cursor (replay.crossed span previous) :=
  State.advanceReplay_reads
    ((compareMarks_previous marks here others reached target).trans (compareMarks_short short))

/-- The next older mark being the only one of its epoch from there on, the replay goes on from it (R109). -/
theorem State.advanceReplay_crosses {previous : Mark} (marks : s.log.marks = older ++ [previous] ++ span :: newer)
    (here : span.epoch = replay.span) (others : ∀ m ∈ newer, m.epoch ≠ replay.span)
    (distinct : ∀ m ∈ span :: newer, m.epoch ≠ previous.epoch) (reached : replay.position = span.offset)
    (target : span.epoch ≠ cursor.target) :
    s.advanceReplay cursor replay = s.advanceReplay cursor (replay.crossed span previous) := by
  have entered : marksFrom s.log.marks previous.epoch = previous :: older.reverse := by
    rw [marks, ← List.append_cons]
    exact marksFrom_eq older _ previous _ rfl distinct
  unfold State.advanceReplay
  rw [compareMarks_previous marks here others reached target, ← entered]
  rfl

end

/-! ## QUIESCE_COMPLETE (R107) -/

theorem State.quiesceDue_iff (s : State) :
    s.quiesceDue = true ↔ s.log.engine = .quiescing ∧ s.staging.runSlots = [] ∧ s.staging.filler = none ∧ s.stream = [] ∧
      ¬∃ e ∈ s.window, e.isLogged ∧ (e.phase = .awaitRecord ∨ e.phase = .ready ∨ e.phase = .issued) := by
  simp [State.quiesceDue, State.stagingEmpty, and_assoc, or_assoc]

theorem exec_quiesceComplete {s : State} {cursor : RollbackCursor} (rollback : s.rollback = some cursor) :
    exec .quiesceComplete s = .next (if s.quiesceDue then s.startReplay cursor else s) := by
  refine (?_ : execQuiesceComplete s = _)
  rw [execQuiesceComplete, rollback]
  exact (apply_ite Host.Outcome.next _ _ _).symm

/-- The replay at its start: from durable head, in the newest mark's epoch (R107). -/
def LogController.firstReplay (l : LogController) (newest : Mark) : Replay :=
  { position := l.durableHead, back := l.lastLength, span := newest.epoch, bound := l.nextSeq, lastApplied := none,
    progress := .between, haltRequested := false }

theorem State.startReplay_eq {s : State} {cursor : RollbackCursor} {older : List Mark} {newest : Mark}
    (quiescing : s.log.engine = .quiescing) (marks : s.log.marks = older ++ [newest]) :
    s.startReplay cursor = (s.setEngine .rollingBack).advanceReplay
      { cursor with replay := some (s.log.firstReplay newest) } (s.log.firstReplay newest) := by
  have epoch : s.log.currentEpoch = newest.epoch := by
    rw [LogController.currentEpoch_eq _ (by simp [quiescing]), marks, newestEpoch, List.getLast?_concat]
  rw [State.startReplay, epoch]
  rfl

/-- Settles O53: the replay starts at the newest mark, and the comparison there says what comes first. -/
theorem quiesceCompleteStartsTheReplay : Obligations.QuiesceCompleteStartsTheReplay := by
  intro s cursor older newest rollback marks waits due replay length position reads
  have due_iff : s.quiesceDue = true ↔ due := s.quiesceDue_iff
  let starting := s.setEngine .rollingBack
  let onward := { cursor with replay := some replay }
  have answer {t : State} (ready : due) (advances : starting.advanceReplay onward replay = t) :
      exec .quiesceComplete s = .next t := by
    rw [exec_quiesceComplete rollback, if_pos (due_iff.2 ready), State.startReplay_eq ready.1 marks, ← advances]
    rfl
  have alone : ∀ m ∈ ([] : List Mark), m.epoch ≠ newest.epoch := by simp
  refine ⟨fun idle => ?_, fun ready short record => ?_, fun ready short none => ?_,
    fun ready reached crosses before previous split short record => ?_, fun ready reached target => ?_⟩
  · rw [exec_quiesceComplete rollback, if_neg (mt due_iff.1 idle)]
  · exact answer ready (State.advanceReplay_short_reads (s := starting) marks rfl alone short record)
  · rw [← show newestEpoch s.log.marks = newest.epoch by simp [newestEpoch, marks]]
    exact answer ready (State.advanceReplay_short_stops (s := starting) marks rfl alone short none)
  · subst split
    have crossed := State.advanceReplay_crosses_short (s := starting) (cursor := onward) (replay := replay) marks rfl alone
      reached crosses short
    exact answer ready (crossed.trans (State.readRecord_reads record))
  · have completes := State.advanceReplay_reached (s := starting) (cursor := onward) (replay := replay) marks rfl alone
      reached target
    have empty : s.stream = [] := by
      obtain ⟨_, _, _, empty, _⟩ := ready
      exact empty
    have completed := State.completeRollback_eq (s := starting) (cursor := onward) (replay := replay) (newer := [])
      marks target (by simp) (by simp [headerWrites]) rfl rfl empty rfl
    exact answer ready (completes.trans completed)

/-! ## HALT and RESUME (R118, R120) -/

theorem State.replaying_eq {s : State} {cursor : RollbackCursor} {replay : Replay} (rollback : s.rollback = some cursor)
    (running : cursor.replay = some replay) : s.replaying = some (cursor, replay) := by
  simp [State.replaying, rollback, running]

theorem exec_halt {s : State} {cursor : RollbackCursor} {replay : Replay} (high : s.rstLow = false)
    (engine : s.log.engine = .rollingBack) (rollback : s.rollback = some cursor) (running : cursor.replay = some replay) :
    exec .halt s = .next ((s.respond .done []).haltAt cursor replay) := by
  have replaying : (s.respond .done []).replaying = some (cursor, replay) := State.replaying_eq rollback running
  refine (congrArg Host.Outcome.next (State.onFrame_eq high _)).trans ?_
  simp [engine, replaying]

theorem exec_halt_refused {s : State} (high : s.rstLow = false) (other : s.log.engine ≠ .rollingBack) :
    exec .halt s = .next (s.refuse .state) :=
  (congrArg Host.Outcome.next (State.onFrame_eq high _)).trans (congrArg _ (if_neg other))

theorem exec_resume {s : State} {cursor : RollbackCursor} {replay : Replay} (high : s.rstLow = false)
    (engine : s.log.engine = .halted) (rollback : s.rollback = some cursor) (running : cursor.replay = some replay) :
    exec .resume s = .next (((s.respond .done []).setEngine .rollingBack).advanceReplay cursor replay) := by
  have replaying : ((s.respond .done []).setEngine .rollingBack).replaying = some (cursor, replay) :=
    State.replaying_eq rollback running
  refine (congrArg Host.Outcome.next (State.onFrame_eq high _)).trans ?_
  simp [engine, replaying]

theorem exec_resume_refused {s : State} (high : s.rstLow = false) (other : s.log.engine ≠ .halted) :
    exec .resume s = .next (s.refuse .state) :=
  (congrArg Host.Outcome.next (State.onFrame_eq high _)).trans (congrArg _ (if_neg other))

/-- A record in progress is finished before the replay halts (R118). -/
theorem State.haltAt_inProgress (s : State) (cursor : RollbackCursor) (replay : Replay)
    (busy : (∃ p n, replay.progress = .reading p n) ∨ (∃ h p, replay.progress = .restoring h p)) :
    s.haltAt cursor replay =
      { s with rollback := some { cursor with replay := some { replay with haltRequested := true } } } := by
  obtain ⟨p, n, reading⟩ | ⟨h, p, restoring⟩ := busy
  · rw [State.haltAt, reading]
    rfl
  · rw [State.haltAt, restoring]
    rfl

/-- Settles O56: a resumed replay goes on as any other does between two records; the crossing comes out the same from either
mark, since nothing of the cursor that stood there before is left. -/
theorem haltAndResumeSteerTheReplay : Obligations.HaltAndResumeSteerTheReplay := by
  intro s high
  refine ⟨exec_halt_refused high, exec_resume_refused high, fun cursor replay rollback running =>
    ⟨fun engine => ⟨fun completing => ?_, fun busy => ?_⟩, fun older newer span engine marks here others =>
      ⟨fun short record => ?_, fun short none => ?_, fun reached crosses further previous split distinct listed => ?_⟩⟩⟩
  · rw [exec_halt high engine rollback running, State.haltAt, completing]
    rfl
  · rw [exec_halt high engine rollback running, State.haltAt_inProgress _ _ _ busy]
    rfl
  · exact (exec_resume high engine rollback running).trans
      (congrArg _ (State.advanceReplay_short_reads marks here others short record))
  · have halted : { s.log with engine := .halted } = s.log := by rw [← engine]
    refine ((exec_resume high engine rollback running).trans
      (congrArg _ (State.advanceReplay_short_stops marks here others short none))).trans ?_
    exact congrArg Host.Outcome.next (State.eq_of_blocks (log := halted) (events := rfl) (link := rfl))
  · subst split
    let resuming := (s.respond .done []).setEngine .rollingBack
    let crossed := replay.crossed span previous
    let onward := { cursor with replay := some crossed }
    have entered : resuming.log.marks = further ++ previous :: (span :: newer) := marks.trans (List.append_cons ..).symm
    calc exec .resume s
      _ = .next (resuming.advanceReplay cursor replay) := exec_resume high engine rollback running
      _ = .next (resuming.advanceReplay cursor crossed) :=
        congrArg _ (State.advanceReplay_crosses marks here others distinct reached crosses)
      _ = .next ((resuming.withRollback (some onward)).advanceReplay onward crossed) :=
        congrArg _ (State.advanceReplay_replaces entered rfl distinct _ _ listed).symm
      _ = exec .resume { s with rollback := some onward } :=
        (exec_resume (s := { s with rollback := some onward }) high engine rfl rfl).symm

end Sys2Proof.Machine
end

/-! # The return of a record read (O54) -/

section
-- One proof after another: the threads of many at once outgrow the check's memory limit.
set_option Elab.async false
namespace Sys2Proof.Machine

/-! ## What each check asks of a record (R111) -/

theorem codeRight_iff (h : RecordHeader) (bytes : List Byte) :
    codeRight h bytes = true ↔ h.kind = .other ∨
      crc16 (bytes.take 14 ++ if h.kind = .data then (bytes.drop 16).take (32 * h.count) else []) = h.check := by
  rw [codeRight, checkedMessage]
  cases h.kind <;> simp

/-- The unassigned bits of byte 13 are those of the mask (R200). -/
theorem unassignedClear_iff (bytes : List Byte) : unassignedClear bytes = true ↔ byteAt bytes 13 &&& 0xCC = 0 := by
  rw [unassignedClear]
  generalize byteAt bytes 13 = source
  revert source
  decide

theorem LogController.granulesFit_iff {l : LogController} {area : LogArea} (first : Num) (count : Nat)
    (set : l.area = some area) :
    l.granulesFit first count = true ↔ first.toNat % 32 = 0 ∧ first.toNat % 128 + 32 * count ≤ 128 ∧
      (first.toNat + 32 * count ≤ area.base.toNat ∨ area.base.toNat + area.size ≤ first.toNat) := by
  simp only [LogController.granulesFit, set]
  rw [Bool.and_eq_true, Bool.and_eq_true, decide_eq_true_iff, decide_eq_true_iff, decide_eq_true_iff, and_assoc]
  rfl

theorem LogController.formRight_iff {l : LogController} {area : LogArea} (h : RecordHeader) (bytes : List Byte)
    (span : Mark) (end_ length : Nat) (set : l.area = some area) :
    l.formRight h (unassignedClear bytes) span end_ length = true ↔
      byteAt bytes 13 &&& 0xCC = 0 ∧ length ≤ ringSub l.ringSize end_ span.offset ∧
        ((h.kind = .data ∧ 1 ≤ h.count ∧ h.count ≤ 4 ∧ length = 16 + 32 * h.count ∧ h.first.toNat % 32 = 0 ∧
            h.first.toNat % 128 + 32 * h.count ≤ 128 ∧
            (h.first.toNat + 32 * h.count ≤ area.base.toNat ∨ area.base.toNat + area.size ≤ h.first.toNat)) ∨
          (h.kind = .filler ∧ h.count = 0 ∧ h.poison = false ∧ end_ = 0)) := by
  rw [LogController.formRight, Bool.and_eq_true, Bool.and_eq_true, unassignedClear_iff, decide_eq_true_iff, and_assoc]
  refine and_congr_right fun _ => and_congr_right fun _ => ?_
  cases h.kind with
  | data =>
    simp only [Bool.and_eq_true, decide_eq_true_iff, l.granulesFit_iff _ _ set, and_assoc,
      reduceCtorEq, true_and, false_and, or_false]
    rfl
  | filler => simp [and_assoc]
  | other => simp

theorem sequenceRight_iff (replay : Replay) (h : RecordHeader) (span : Mark) (position : Nat) :
    sequenceRight replay h span position = true ↔
      (∀ last, replay.lastApplied = some last → h.seq + 1 = last) ∧
      (replay.lastApplied = none → below h.seq replay.bound = true ∧ below h.seq span.firstSeq = false) ∧
      (position = span.offset → h.seq = span.firstSeq) := by
  rw [sequenceRight, Bool.and_eq_true]
  cases replay.lastApplied with
  | none => simp [or_iff_not_imp_left]
  | some last => simp [or_iff_not_imp_left, eq_sub_iff_add_eq]

/-! ## The first check that fails (R111) -/

section
variable {l : LogController} {replay : Replay} {span : Mark} {position length : Nat} {bytes : List Byte}

theorem LogController.checkRecord_code (wrong : ¬codeRight (parseHeader bytes) bytes = true) :
    l.checkRecord replay span position length bytes = some .code := by
  simp [LogController.checkRecord, wrong]

theorem LogController.checkRecord_form (code : codeRight (parseHeader bytes) bytes = true)
    (wrong : ¬l.formRight (parseHeader bytes) (unassignedClear bytes) span replay.position length = true) :
    l.checkRecord replay span position length bytes = some .form := by
  simp [LogController.checkRecord, code, wrong]

theorem LogController.checkRecord_sequence (code : codeRight (parseHeader bytes) bytes = true)
    (form : l.formRight (parseHeader bytes) (unassignedClear bytes) span replay.position length = true)
    (wrong : ¬sequenceRight replay (parseHeader bytes) span position = true) :
    l.checkRecord replay span position length bytes = some .sequence := by
  simp [LogController.checkRecord, code, form, wrong]

theorem LogController.checkRecord_epoch (code : codeRight (parseHeader bytes) bytes = true)
    (form : l.formRight (parseHeader bytes) (unassignedClear bytes) span replay.position length = true)
    (sequence : sequenceRight replay (parseHeader bytes) span position = true) :
    l.checkRecord replay span position length bytes =
      if (parseHeader bytes).epoch = span.epoch then none else some .epoch := by
  simp [LogController.checkRecord, code, form, sequence]

end

/-! ## The return of the read -/

section
variable {s : State} {o : Outstanding} {rest : List Outstanding} {cursor : RollbackCursor} {replay : Replay}
  {position length : Nat} {bytes : List Byte} {span : Mark}

theorem exec_recordRead_error (outstanding : s.port.outstanding = o :: rest) (orphan : o.orphan = false)
    (owner : o.owner = .maint .recordRead) (rollback : s.rollback = some cursor) (running : cursor.replay = some replay)
    (reading : replay.progress = .reading position length) :
    exec (.rollbackRecordReadResponse .error) s = .next (s.freeSlot.recordBad cursor replay position .read) := by
  refine (?_ : execRollbackRecordReadResponse .error s = _)
  simp [execRollbackRecordReadResponse, State.replaying_eq rollback running, reading,
    State.answersMaint_eq (response := .error) outstanding orphan owner rfl]

theorem exec_recordRead_okay (outstanding : s.port.outstanding = o :: rest) (orphan : o.orphan = false)
    (owner : o.owner = .maint .recordRead) (read : o.request.kind = .read) (fits : bytes.length = o.request.length)
    (rollback : s.rollback = some cursor) (running : cursor.replay = some replay)
    (reading : replay.progress = .reading position length) :
    exec (.rollbackRecordReadResponse (.okay bytes)) s =
      .next (s.freeSlot.recordRead cursor replay position length bytes) := by
  have answers : s.answersMaint .recordRead (.okay bytes) = true :=
    State.answersMaint_eq outstanding orphan owner (by simp [responseFits, read, fits])
  refine (?_ : execRollbackRecordReadResponse (.okay bytes) s = _)
  simp [execRollbackRecordReadResponse, State.replaying_eq rollback running, reading, answers]

theorem State.recordRead_bad {reason : BadReason} (found : s.log.marks.find? (fun m => m.epoch == replay.span) = some span)
    (checked : s.log.checkRecord replay span position length bytes = some reason) :
    s.recordRead cursor replay position length bytes = s.recordBad cursor replay position reason := by
  simp [State.recordRead, found, checked]

theorem State.recordRead_usable (found : s.log.marks.find? (fun m => m.epoch == replay.span) = some span)
    (checked : s.log.checkRecord replay span position length bytes = none) :
    s.recordRead cursor replay position length bytes =
      s.applyRecord cursor replay (parseHeader bytes) position bytes := by
  simp [State.recordRead, found, checked]

/-- The move over a record does not look at the cursor that stands there (R117). -/
theorem State.moveLog_withRollback (s : State) (old : Option RollbackCursor) (h : RecordHeader) (position : Nat) :
    (s.withRollback old).moveLog h position = (s.moveLog h position).withRollback old := by
  let moved := s.modLog fun l => { l with durableHead := position, writePos := position, lastLength := h.back }
  have compared : (moved.withRollback old).compareLowSpace = moved.compareLowSpace.withRollback old := by
    rw [State.compareLowSpace_eq_with (s := moved.withRollback old) (t := moved) rfl rfl]
    exact State.eq_of_blocks
  exact congrArg State.oweWalk compared

/-- Moving back replaces the cursor's replay: what was in progress makes no difference (R104, R117). -/
theorem State.moveBack_replaces (s : State) (old : Option RollbackCursor) (running : Option Replay)
    (progress : ReplayProgress) (cursor : RollbackCursor) (replay : Replay) (h : RecordHeader) (position : Nat) :
    (s.withRollback old).moveBack { cursor with replay := running } { replay with progress := progress } h position =
      s.moveBack cursor replay h position := by
  rw [State.moveBack, State.moveLog_withRollback, State.goOn_eq]
  rfl

/-- A usable data record that is not poisoned has its restore write offered (R113). -/
theorem State.applyRecord_restores {h : RecordHeader} (s : State) (cursor : RollbackCursor) (replay : Replay) (position : Nat)
    (data : h.kind = .data) (usable : h.poison = false) (full : bytes.length = 16 + 32 * h.count) :
    s.applyRecord cursor replay h position bytes = { s with
      rollback := some { cursor with replay := some { replay with progress := .restoring h position } }
      maintOffer := some
        { step := .restoreWrite
          request := { kind := .write, address := h.first, length := 32 * h.count, enables := none,
                       data := bytes.drop 16 } } } := by
  have size : (bytes.drop 16).length = 32 * h.count := by simp [full]
  simp only [State.applyRecord, data, usable, List.take_of_length_le size.le, writeRequest, size]
  rfl

/-- A usable poisoned record is reported and passed over (R114). -/
theorem State.applyRecord_poisoned {h : RecordHeader} (s : State) (cursor : RollbackCursor) (replay : Replay) (position : Nat)
    (data : h.kind = .data) (poisoned : h.poison = true) :
    s.applyRecord cursor replay h position bytes =
      (s.post .unrestorable (some h.first) (some h.requester) (.number h.seq)).moveBack cursor replay h position := by
  simp [State.applyRecord, data, poisoned]

/-- A usable filler is passed over (R115). -/
theorem State.applyRecord_filler {h : RecordHeader} (s : State) (cursor : RollbackCursor) (replay : Replay) (position : Nat)
    (filler : h.kind = .filler) : s.applyRecord cursor replay h position bytes = s.moveBack cursor replay h position := by
  simp [State.applyRecord, filler]

end

/-- Settles O54: each check is its own lemma; a record passed over is moved back over as the restore write's OKAY does it,
which does not look at what was in progress. -/
theorem recordReadIsCheckedInOrder : Obligations.RecordReadIsCheckedInOrder := by
  intro s o rest cursor replay position length bytes span area outstanding orphan owner read fits full rollback running
    reading found set h taken bad restoring movesBack code form sequence
  have code_iff : codeRight h bytes = true ↔ code := codeRight_iff h bytes
  have form_iff : s.log.formRight h (unassignedClear bytes) span replay.position length = true ↔ form :=
    s.log.formRight_iff h bytes span replay.position length set
  have sequence_iff : sequenceRight replay h span position = true ↔ sequence := sequenceRight_iff replay h span position
  have freed : s.freeSlot = taken := State.freeSlot_eq outstanding
  have returns : exec (.rollbackRecordReadResponse (.okay bytes)) s =
      .next (taken.recordRead cursor replay position length bytes) := by
    rw [← freed]
    exact exec_recordRead_okay outstanding orphan owner read (full.trans fits.symm) rollback running reading
  have halts {reason : BadReason} (checked : s.log.checkRecord replay span position length bytes = some reason) :
      exec (.rollbackRecordReadResponse (.okay bytes)) s = .next (bad reason) := by
    rw [returns, State.recordRead_bad (s := taken) found checked, State.recordBad_eq]
  have applies (c : code) (f : form) (q : sequence) (e : h.epoch = span.epoch) :
      exec (.rollbackRecordReadResponse (.okay bytes)) s =
        .next (taken.applyRecord cursor replay h position bytes) := by
    rw [returns, State.recordRead_usable (s := taken) found]
    exact (LogController.checkRecord_epoch (code_iff.2 c) (form_iff.2 f) (sequence_iff.2 q)).trans (if_pos e)
  have passes (events : EventQueue) (applied : exec (.rollbackRecordReadResponse (.okay bytes)) s =
      .next ((taken.withEvents events).moveBack cursor replay h position)) : movesBack events := by
    let write : Outstanding := { o with owner := .maint .restoreWrite, request := { o.request with kind := .write } }
    let writing : State := { s with
      port := { s.port with outstanding := write :: rest }, rollback := restoring, events := events }
    refine applied.trans (Eq.symm ?_)
    refine (exec_restoreWriteResponse (s := writing) (o := write) .okay rfl orphan rfl rfl rfl rfl rfl).trans (congrArg _ ?_)
    exact (taken.withEvents events).moveBack_replaces restoring _ (.restoring h position) cursor replay h position
  refine ⟨?_, fun c => halts ?_, fun c f => halts ?_, fun c f q => halts ?_, fun c f q e => halts ?_,
    fun c f q e data usable => ?_, fun c f q e data poisoned => ?_, fun c f q e filler => ?_⟩
  · rw [exec_recordRead_error outstanding orphan owner rollback running reading, freed, State.recordBad_eq]
  · exact LogController.checkRecord_code (mt code_iff.1 c)
  · exact LogController.checkRecord_form (code_iff.2 c) (mt form_iff.1 f)
  · exact LogController.checkRecord_sequence (code_iff.2 c) (form_iff.2 f) (mt sequence_iff.1 q)
  · exact (LogController.checkRecord_epoch (code_iff.2 c) (form_iff.2 f) (sequence_iff.2 q)).trans (if_neg e)
  · have whole : length = 16 + 32 * h.count := by
      obtain ⟨_, _, ⟨_, _, _, whole, _⟩ | ⟨filler, _⟩⟩ := f
      · exact whole
      · simp [data] at filler
    rw [applies c f q e, taken.applyRecord_restores cursor replay position data usable (full.trans whole)]
  · exact passes _ ((applies c f q e).trans (congrArg _ (taken.applyRecord_poisoned cursor replay position data poisoned)))
  · exact passes _ ((applies c f q e).trans (congrArg _ (taken.applyRecord_filler cursor replay position filler)))

end Sys2Proof.Machine
end

/-! # READ_STATUS, READ_REGION and READ_MARK (O23) -/

section
-- One proof after another: the threads of many at once outgrow the check's memory limit.
set_option Elab.async false
namespace Sys2Proof.Machine

/-- The flag byte of READ_STATUS is the sum of its flags' places (R203). -/
theorem State.statusFlags_eq (s : State) :
    s.statusFlags = BitVec.ofNat 8 ((if s.log.freeze then 1 else 0) + (if s.events.lost then 2 else 0) +
      (if s.log.checkpointLatch then 4 else 0) + (if s.log.faultLatch then 8 else 0)) := by
  rw [State.statusFlags]
  generalize s.log.freeze = freeze, s.events.lost = lost, s.log.checkpointLatch = checkpoint, s.log.faultLatch = fault
  revert freeze lost checkpoint fault
  decide

theorem State.stagingOccupancy_eq (s : State) :
    s.stagingOccupancy = s.staging.runSlots.length + (if s.staging.filler = none then 0 else 1) := by
  rw [State.stagingOccupancy]
  cases s.staging.filler <;> rfl

theorem State.usedBytes_eq (s : State) :
    s.usedBytes = if s.log.listedMarks = [] then 0 else s.log.usedSpace := by
  simp only [State.usedBytes, List.isEmpty_iff]

section
variable {s : State} (running : s.rstLow = false)
include running

theorem exec_readRegion (index : Byte) :
    exec (.readRegion index) s = .next (
      match regionIndex index with
      | none => s.refuse .range
      | some i => s.respond .done (regionBytes s.regions[i])) :=
  congrArg Host.Outcome.next (State.onFrame_eq running _)

theorem exec_readMark (index : Byte) :
    exec (.readMark index) s = .next (
      match s.log.listedMarks[index.toNat]? with
      | none => s.refuse .range
      | some m => s.respond .done (markResults m)) :=
  congrArg Host.Outcome.next (State.onFrame_eq running _)

theorem exec_readMark_refused {index : Byte} (beyond : s.log.listedMarks.length ≤ index.toNat) :
    exec (.readMark index) s = .next (s.refuse .range) := by
  rw [exec_readMark running, List.getElem?_eq_none beyond]

end

/-- Settles O23: the status is read off field by field, and the entry or mark named is there or is not. -/
theorem readCommandsReturnTheFields : Obligations.ReadCommandsReturnTheFields := by
  refine ⟨fun s running => ?_, fun s index running => ⟨fun indexed => ?_, fun outside => ?_, fun attached indexed => ?_,
    fun absent => ?_⟩⟩
  · intro flags slots marks used results
    have status : s.statusBytes = results := by
      rw [State.statusBytes, State.statusFlags_eq, State.stagingOccupancy_eq, State.usedBytes_eq]
      rfl
    refine ⟨rfl, ?_⟩
    rw [← status]
    exact congrArg Host.Outcome.next (State.onFrame_eq running _)
  · dsimp only
    rw [exec_readRegion running, regionIndex_eq_some indexed, BitVec.ofNat_toNat]
    rfl
  · rw [exec_readRegion running, regionIndex_eq_none outside]
    rfl
  · rw [exec_readMark running, LogController.listedMarks_of_not_scanning _ attached, List.getElem?_eq_getElem indexed]
    rfl
  · refine exec_readMark_refused running ?_
    rcases absent with scanning | beyond
    · simp [LogController.listedMarks_scanning _ scanning]
    · unfold LogController.listedMarks
      split
      · exact Nat.zero_le _
      · exact beyond

end Sys2Proof.Machine
end

/-! # SET_LOG, the start of FORMAT and ATTACH, and the end of DETACH (O27, O29, O35) -/

section
-- One proof after another: the threads of many at once outgrow the check's memory limit.
set_option Elab.async false
namespace Sys2Proof.Machine

/-! ## SET_LOG (R127) -/

section
variable {s : State} {base size : Num}

/-- An argument of SET_LOG is outside its range (R127). -/
def OutsideLog (base size : Num) : Prop :=
  base.toNat % 4096 ≠ 0 ∨ size.toNat < 16384 ∨ 67108864 < size.toNat ∨ size.toNat % 4096 ≠ 0 ∨
    2 ^ 32 < base.toNat + size.toNat

theorem logArguments_eq_none (outside : OutsideLog base size) : logArguments base size = none := by
  refine if_neg fun ⟨aligned, least, most, whole, fits⟩ => ?_
  unfold OutsideLog at outside
  omega

theorem logArguments_eq_some (inside : ¬OutsideLog base size) :
    logArguments base size = some { base := base, size := size.toNat } := by
  refine if_pos ?_
  unfold OutsideLog at inside
  omega

/-- The area meets a valid region of mode LOGGED (R127). -/
theorem State.overlapsLogged_iff (a : LogArea) :
    s.overlapsLogged a = true ↔ ∃ j : Fin 16, s.regions[j].valid = true ∧ s.regions[j].mode = .logged ∧
      Meets s.regions[j].base.toNat s.regions[j].size a.base.toNat a.size := by
  simp only [State.overlapsLogged, List.any_eq_true, List.mem_finRange, true_and, Bool.and_eq_true, beq_iff_eq,
    rangesOverlap_iff, and_assoc]

theorem exec_setLog (running : s.rstLow = false) :
    exec (.setLog base size) s = .next (
      if s.log.engine = .detached then
        match logArguments base size with
        | none => s.refuse .range
        | some area =>
          if s.overlapsLogged area then s.refuse .overlap
          else (s.modLog fun l => { l with area := some area }).respond .done []
      else s.refuse .state) :=
  congrArg Host.Outcome.next (State.onFrame_eq running _)

end

/-- Settles O27: each test is read off its own lemma, and the tests before it have failed. -/
theorem setLogIsTestedInOrder : Obligations.SetLogIsTestedInOrder := by
  intro s base size running
  dsimp only
  rw [exec_setLog running]
  refine ⟨fun attached => ?_, fun detached outside => ?_, fun detached inside overlap => ?_,
    fun detached inside apart => ⟨rfl, ?_⟩⟩
  · rw [if_neg attached]
    rfl
  · rw [if_pos detached, logArguments_eq_none outside]
    rfl
  · rw [if_pos detached, logArguments_eq_some inside]
    dsimp only
    rw [if_pos ((State.overlapsLogged_iff _).2 overlap)]
    rfl
  · rw [if_pos detached, logArguments_eq_some inside]
    dsimp only
    rw [if_neg (mt (State.overlapsLogged_iff _).1 apart)]
    rfl

/-! ## Acceptance of FORMAT and ATTACH (R130, R131, R133, R134) -/

section
variable {s : State} {area : LogArea}

theorem LogController.copyAddress_eq {l : LogController} (set : l.area = some area) (copy : CopyName) :
    l.copyAddress copy = if copy = .a then area.base else area.base + 256 := by
  cases copy <;> simp [LogController.copyAddress, LogController.base, set]

/-- In DETACHED with the log area set FORMAT and ATTACH are accepted (R129, R133). -/
theorem State.startInDetached_accepts (detached : s.log.engine = .detached) (set : s.log.area = some area)
    (accept : State → State) : s.startInDetached accept = accept (s.respond .started []) := by
  rw [State.startInDetached, if_pos detached, set]

/-- The request of a FORMAT copy write, for a log of at most 8 marks (R131). -/
theorem LogController.formatRequest_eq {l : LogController} (set : l.area = some area) (few : l.marks.length ≤ 8)
    (copy : CopyName) (generation : Num) :
    l.formatRequest copy generation =
      { kind := .write, address := if copy = .a then area.base else area.base + 256, length := 256, enables := none,
        data := copyBytes (l.headerCopy generation) } := by
  rw [LogController.formatRequest, writeRequest, LogController.copyAddress_eq set, copyBytes_length _ few]

end

/-- Settles O29: both commands are accepted; FORMAT's copy B describes the log that its acceptance makes. -/
theorem formatAndAttachStart : Obligations.FormatAndAttachStart := by
  intro s area running detached set
  have copyB := LogController.formatRequest_eq (l := s.log.formatted) (area := area) set
    (by simp [LogController.formatted]) .b 0
  have copyA : s.log.copyRead .a = readRequest area.base 256 := by
    rw [LogController.copyRead, LogController.copyAddress_eq set, if_pos rfl]
  refine ⟨⟨(s.respond .started []).acceptFormat, ?_, rfl, rfl, ?_⟩, ?_⟩
  · simp only [exec, execFormat, State.onFrame_eq running, State.startInDetached_accepts detached set]
  · exact congrArg (fun request => some (MaintOffer.mk (.formatCopy .b) request)) copyB
  · simp only [exec, execAttach, State.onFrame_eq running, State.startInDetached_accepts detached set, State.acceptAttach]
    rw [State.respond_log, copyA]
    rfl

/-! ## The end of DETACH (R144, R145) -/

theorem State.detachDue_iff (s : State) :
    s.detachDue = true ↔
      s.log.engine = .detaching ∧ s.staging.runSlots = [] ∧ s.staging.filler = none ∧ s.stream = [] := by
  simp [State.detachDue, State.stagingEmpty, and_assoc]

/-- The log is given up with DETACH_DONE, and a latched fault is dropped in DETACHED, with epoch 0 (R145, R166). -/
theorem State.finishDetach_eq (s : State) :
    s.finishDetach =
      (let done := s.events.post
        { kind := .detachDone, epoch := s.log.currentEpoch, address := none, requester := none, detail := .absent }
      { s with
        events :=
          if s.log.faultLatch then done.post
            { kind := .faultDropped, epoch := 0, address := none, requester := none, detail := .prevented .detached }
          else done
        capture := { s.capture with set := [] }
        log := { s.log.giveUp with engine := .detached, faultLatch := false } }) := by
  rw [State.finishDetach, State.dropFaultDetached, State.dropFaultLatch_eq]
  rfl

/-- Settles O35: `finishDetach_eq`, once the end of DETACH is due. -/
theorem detachCompletionGivesTheLogUp : Obligations.DetachCompletionGivesTheLogUp := by
  intro s detaching slots filler stream
  have due : s.detachDue = true := s.detachDue_iff.2 ⟨detaching, slots, filler, stream⟩
  refine (congrArg Host.Outcome.next (if_pos due)).trans ?_
  rw [State.finishDetach_eq]
  rfl

end Sys2Proof.Machine
end

/-! # The header step and the walk of ATTACH (O31, O32) -/

section
-- One proof after another: the threads of many at once outgrow the check's memory limit.
set_option Elab.async false
namespace Sys2Proof.Machine

/-! ## The header step (R134, R135) -/

section
variable {s : State} {o : Outstanding} {rest : List Outstanding} {c : ScanCursor} {copy : CopyName}
  {response : MemResponse} {area : LogArea}

/-- A response does not answer a request that was made for another maintenance step (R155). -/
theorem State.answersMaint_other {step other : MaintStep} (outstanding : s.port.outstanding = o :: rest)
    (orphan : o.orphan = false) (owner : o.owner = .maint step) (different : step ≠ other) :
    s.answersMaint other response = false := by
  simp [State.answersMaint, State.oldestRequest_eq outstanding orphan, owner, different]

/-- The read of either header copy is answered for that copy (R134). -/
theorem exec_attachHeaderReadResponse (outstanding : s.port.outstanding = o :: rest) (orphan : o.orphan = false)
    (owner : o.owner = .maint (.attachHeader copy)) (fits : responseFits o.request response = true)
    (scan : s.scan = some c) :
    exec (.attachHeaderReadResponse response) s = .next (s.freeSlot.copyReturned c copy response) := by
  refine (?_ : execAttachHeaderReadResponse response s = _)
  have answers := State.answersMaint_eq outstanding orphan owner fits
  cases copy with
  | a => simp [execAttachHeaderReadResponse, scan, answers]
  | b =>
    have other : s.answersMaint (.attachHeader .a) response = false :=
      State.answersMaint_other outstanding orphan owner (by decide)
    simp [execAttachHeaderReadResponse, scan, answers, other]

/-- Without a latched fault a failed attach leaves DETACHED with ATTACH_FAILED (R141). -/
theorem State.failAttach_eq (s : State) (unlatched : s.log.faultLatch = false) (address : Option Num)
    (reason : AttachFailure) :
    s.failAttach address reason = { s with
      scan := none, log := { s.log with engine := .detached }
      events := s.events.post
        { kind := .attachFailed, epoch := s.log.currentEpoch, address := address, requester := none,
          detail := .attachFailure reason } } :=
  if_neg (ne_true_of_eq_false unlatched)

theorem LogController.ringAddress_eq {l : LogController} (set : l.area = some area) (p : Nat) :
    l.ringAddress p = area.base + BitVec.ofNat 32 (512 + p) := by
  rw [LogController.ringAddress, LogController.base, set]
  rfl

/-- The walk starts at the newest mark of the chosen copy, with the working tail at its oldest (R135, R136). -/
theorem State.startWalk_eq {chosen : HeaderCopy} {newest oldest : Mark} (set : s.log.area = some area)
    (last : chosen.marks.getLast? = some newest) (first : chosen.marks.head? = some oldest) :
    s.startWalk chosen = { s with
      scan := some
        { step := .walk, copyA := none, chosen := some chosen, working := chosen.marks, workingTail := oldest.offset,
          position := newest.offset, expected := newest.firstSeq, lastLength := newest.back, found := 0,
          highest := newest.epoch, examined := none }
      maintOffer := some
        { step := .walkHeader
          request := { kind := .read, address := area.base + BitVec.ofNat 32 (512 + newest.offset), length := 16,
                       enables := none, data := [] } } } := by
  obtain ⟨older, marks⟩ := List.head?_eq_some_iff.1 first
  have tail : oldestOffset chosen.marks = oldest.offset := by rw [marks]; rfl
  unfold State.startWalk
  rw [last]
  simp only [State.readWalkHeader, tail, LogController.ringAddress_eq set]
  rfl

/-- What is chosen between the copies read is walked from; without a choice the attach fails (R135). -/
theorem State.chooseAndWalk_eq {chosen : HeaderCopy} {bytes : List Byte}
    (choice : chooseCopy c.copyA (validCopy s.log.ringSize .b bytes) = some chosen) :
    s.chooseAndWalk c bytes = s.startWalk chosen := by
  rw [State.chooseAndWalk, choice]

theorem State.chooseAndWalk_fails {bytes : List Byte}
    (choice : chooseCopy c.copyA (validCopy s.log.ringSize .b bytes) = none) :
    s.chooseAndWalk c bytes = s.failAttach none .noLog := by
  rw [State.chooseAndWalk, choice]

end

/-- Settles O31: the copy's return is `State.copyReturned`, and `chooseCopy` says which copy the walk starts from. -/
theorem attachHeaderResponseChoosesTheCopy : Obligations.AttachHeaderResponseChoosesTheCopy := by
  intro s o rest c copy area bytes outstanding orphan owner read length whole scan set taken other choose failed
  let freed : State := { s with port := taken }
  have returned {response : MemResponse} (fits : responseFits o.request response = true) :
      exec (.attachHeaderReadResponse response) s = .next (freed.copyReturned c copy response) := by
    rw [exec_attachHeaderReadResponse outstanding orphan owner fits scan, State.freeSlot_eq outstanding]
  have okay := returned (response := .okay bytes) (by simp [responseFits, read, length, whole])
  have chooses {chosen : HeaderCopy} (second : copy = .b) (choice : chooseCopy c.copyA other = some chosen) :
      choose chosen := by
    intro newest last oldest first
    subst second
    exact okay.trans (congrArg Host.Outcome.next
      ((State.chooseAndWalk_eq (s := freed) choice).trans (State.startWalk_eq (s := freed) set last first)))
  refine ⟨?_, fun second a b first valid order => chooses second ?_, fun second a b first valid order => chooses second ?_,
    fun second a first invalid => chooses second ?_, fun second b first valid => chooses second ?_, ?_, fun unlatched => ?_⟩
  · rintro rfl
    have request : freed.log.copyRead .b = readRequest (area.base + 256) 256 := by
      rw [LogController.copyRead, LogController.copyAddress_eq set, if_neg nofun]
    rw [okay, State.copyReturned, State.readCopyB, request]
    rfl
  · rw [first, valid]
    exact if_neg (Nat.not_lt.2 order)
  · rw [first, valid]
    exact if_pos order
  · rw [first, invalid]
    rfl
  · rw [first, valid]
    rfl
  · rintro rfl first invalid unlatched
    have unchosen : chooseCopy c.copyA other = none := by rw [first, invalid]; rfl
    rw [okay, State.copyReturned, State.chooseAndWalk_fails (s := freed) unchosen, State.failAttach_eq freed unlatched]
  · have address : freed.log.copyAddress copy = _ := LogController.copyAddress_eq set copy
    rw [returned rfl, State.copyReturned, address, State.failAttach_eq freed unlatched]

/-! ## The tests of the walk (R137) -/

section
variable {l : LogController} {c : ScanCursor} {h : RecordHeader} {newest : Mark} {area : LogArea}

theorem LogController.ringSize_eq (set : l.area = some area) : l.ringSize = area.size - 512 := by
  rw [LogController.ringSize, set]
  rfl

/-- The tests that the records of both kinds must pass: sequence, epoch, back length and the unassigned bits (R137). -/
def WalkCommon (c : ScanCursor) (newest : Mark) (bytes : List Byte) : Prop :=
  (parseHeader bytes).seq = c.expected ∧ below (parseHeader bytes).epoch newest.epoch = false ∧
    (parseHeader bytes).back = c.lastLength ∧ byteAt bytes 13 &&& 0xCC = 0

/-- A record of a length at the cursor leaves the ring's last 16 bytes free (R137). -/
def WalkFits (S : Nat) (c : ScanCursor) (length : Nat) : Prop :=
  ringSub S c.position c.workingTail + length + 16 ≤ S

/-- The tests of a DATA record (R137). -/
def WalkData (area : LogArea) (c : ScanCursor) (h : RecordHeader) : Prop :=
  h.kind = .data ∧ 1 ≤ h.count ∧ h.count ≤ 4 ∧ c.position + 16 + 32 * h.count ≤ area.size - 512 ∧
    h.first.toNat % 32 = 0 ∧ h.first.toNat % 128 + 32 * h.count ≤ 128 ∧
    (h.first.toNat + 32 * h.count ≤ area.base.toNat ∨ area.base.toNat + area.size ≤ h.first.toNat) ∧
    WalkFits (area.size - 512) c (16 + 32 * h.count)

/-- The tests of a FILLER (R137). -/
def WalkFiller (area : LogArea) (c : ScanCursor) (h : RecordHeader) : Prop :=
  h.kind = .filler ∧ h.count = 0 ∧ h.poison = false ∧ h.first = 0 ∧ area.size - 512 - c.position ≤ 128 ∧
    WalkFits (area.size - 512) c (area.size - 512 - c.position)

/-- The tests by kind, and the space of the record (R137). -/
theorem LogController.walkShape_iff (set : l.area = some area) :
    (l.walkShape c.position h = true ∧ WalkFits l.ringSize c (walkLength l.ringSize c.position h)) ↔
      WalkData area c h ∨ WalkFiller area c h := by
  rw [LogController.ringSize_eq set]
  unfold LogController.walkShape walkLength WalkData WalkFiller
  cases h.kind with
  | data =>
    simp only [Bool.and_eq_true, decide_eq_true_iff, l.granulesFit_iff _ _ set, LogController.ringSize_eq set,
      recordLength, ← Nat.add_assoc, and_assoc, reduceCtorEq, true_and, false_and, or_false]
  | filler => simp [LogController.ringSize_eq set, and_assoc]
  | other => simp

/-- The header tests (R137). -/
theorem LogController.walkTests_iff {bytes : List Byte} (set : l.area = some area)
    (last : c.working.getLast? = some newest) :
    l.walkTests c (parseHeader bytes) (unassignedClear bytes) = true ↔
      WalkCommon c newest bytes ∧ (WalkData area c (parseHeader bytes) ∨ WalkFiller area c (parseHeader bytes)) := by
  have newest_eq : newestEpoch c.working = newest.epoch := by rw [newestEpoch, last]
  rw [← LogController.walkShape_iff set, LogController.walkTests, newest_eq]
  simp only [Bool.and_eq_true, beq_iff_eq, Bool.not_eq_true', decide_eq_true_iff, unassignedClear_iff, WalkCommon,
    WalkFits, and_assoc]

end

/-! ## A record is accepted (R138, R139) -/

section
variable {s : State} {o : Outstanding} {rest : List Outstanding} {c : ScanCursor} {h : RecordHeader} {newest : Mark}
  {bytes : List Byte} {area : LogArea}

/-- The working list after an accepted record, and the epoch dropped from a full one (R139). -/
theorem extendWorking_eq (last : c.working.getLast? = some newest) :
    extendWorking c.working h c.position =
      (let begins := below newest.epoch h.epoch = true
      let full := begins ∧ 8 ≤ c.working.length
      let kept := if full then c.working.drop 1 else c.working
      (if begins then kept ++ [rebuiltMark h c.position] else kept,
        if full then some (oldestEpoch c.working) else none)) := by
  have newest_eq : newestEpoch c.working = newest.epoch := by rw [newestEpoch, last]
  rw [extendWorking, newest_eq]
  by_cases begins : below newest.epoch h.epoch = true
  · simp only [begins, if_true, true_and, appendWorking_eq]
  · simp only [begins]
    rfl

theorem exec_walkHeader_okay (outstanding : s.port.outstanding = o :: rest) (orphan : o.orphan = false)
    (owner : o.owner = .maint .walkHeader) (fits : responseFits o.request (.okay bytes) = true)
    (scan : s.scan = some c) :
    exec (.walkHeaderReadResponse (.okay bytes)) s = .next (s.freeSlot.headerWalked c bytes) := by
  refine (?_ : execWalkHeaderReadResponse (.okay bytes) s = _)
  simp [execWalkHeaderReadResponse, scan, State.answersMaint_eq outstanding orphan owner fits]

theorem exec_walkRecord_okay (outstanding : s.port.outstanding = o :: rest) (orphan : o.orphan = false)
    (owner : o.owner = .maint .walkRecord) (fits : responseFits o.request (.okay bytes) = true)
    (scan : s.scan = some c) (examined : c.examined = some h) :
    exec (.walkRecordReadResponse (.okay bytes)) s = .next (s.freeSlot.recordWalked c h bytes) := by
  refine (?_ : execWalkRecordReadResponse (.okay bytes) s = _)
  simp [execWalkRecordReadResponse, scan, examined, State.answersMaint_eq outstanding orphan owner fits]

/-- An accepted record of a length is passed, its mark rebuilt for a new epoch, and the next header read (R138, R139). -/
theorem State.acceptWalked_eq {length : Nat} (last : c.working.getLast? = some newest)
    (size : walkLength s.log.ringSize c.position h = length) :
    s.acceptWalked c h =
      (let begins := below newest.epoch h.epoch = true
      let full := begins ∧ 8 ≤ c.working.length
      let kept := if full then c.working.drop 1 else c.working
      let working := if begins then kept ++ [rebuiltMark h c.position] else kept
      let position := (c.position + length) % s.log.ringSize
      { s with
        scan := some
          { c with
            step := .walk, working := working, workingTail := oldestOffset working, found := c.found + 1,
            highest := larger c.highest h.epoch, expected := c.expected + 1, lastLength := length / 16,
            position := position, examined := none }
        events :=
          if full then s.events.post
            { kind := .epochDropped, epoch := s.log.currentEpoch, address := none, requester := none,
              detail := .number (oldestEpoch c.working) }
          else s.events
        maintOffer := some
          { step := .walkHeader, request := readRequest (s.log.ringAddress position) 16 } }) := by
  rw [State.acceptWalked, ScanCursor.accepted, extendWorking_eq last, size, State.postDropped_eq]
  rfl

/-- A header that passes the tests of a DATA record has its whole record read (R136). -/
theorem State.headerWalked_data (set : s.log.area = some area)
    (tests : s.log.walkTests c (parseHeader bytes) (unassignedClear bytes) = true)
    (data : (parseHeader bytes).kind = .data) :
    s.headerWalked c bytes = { s with
      scan := some { c with examined := some (parseHeader bytes) }
      maintOffer := some
        { step := .walkRecord
          request := { kind := .read, address := area.base + BitVec.ofNat 32 (512 + c.position),
                       length := 16 + 32 * (parseHeader bytes).count, enables := none, data := [] } } } := by
  simp only [State.headerWalked, tests, if_true, data, LogController.ringAddress_eq set]
  rfl

/-- A header that passes the tests of a FILLER is judged by its check code (R136). -/
theorem State.headerWalked_filler (tests : s.log.walkTests c (parseHeader bytes) (unassignedClear bytes) = true)
    (filler : (parseHeader bytes).kind = .filler) :
    s.headerWalked c bytes =
      if crc16 (bytes.take 14) = (parseHeader bytes).check then s.acceptWalked c (parseHeader bytes)
      else s.completeAttach c := by
  simp only [State.headerWalked, tests, if_true, filler]

/-- A header that fails a test stops the walk (R137). -/
theorem State.headerWalked_fails (tests : ¬s.log.walkTests c (parseHeader bytes) (unassignedClear bytes) = true) :
    s.headerWalked c bytes = s.completeAttach c :=
  if_neg tests

end

/-- Settles O32: a header is judged by `walkTests_iff` and the case lemmas of `headerWalked`, a whole record by its check
code; what is not accepted completes the attach, as the ERROR does (`exec_walkError`). -/
theorem walkAcceptsTheCheckedRecord : Obligations.WalkAcceptsTheCheckedRecord := by
  unfold Obligations.WalkAcceptsTheCheckedRecord
  intro accepted
  refine ⟨?_, ?_⟩
  · intro s o rest c area newest bytes outstanding orphan owner read length whole scan set last h S fits common data filler
      right
    let freed : State := { s with port := { s.port with outstanding := rest } }
    have tests_iff : freed.log.walkTests c h (unassignedClear bytes) = true ↔ common ∧ (data ∨ filler) :=
      LogController.walkTests_iff set last
    have okay : exec (.walkHeaderReadResponse (.okay bytes)) s = .next (freed.headerWalked c bytes) := by
      rw [exec_walkHeader_okay outstanding orphan owner (by simp [responseFits, read, length, whole]) scan,
        State.freeSlot_eq outstanding]
    have error : exec (.walkHeaderReadResponse .error) s = .next (freed.completeAttach c) := by
      rw [exec_walkError outstanding orphan (.inl ⟨owner, rfl⟩) scan, State.freeSlot_eq outstanding]
    refine ⟨fun shared isData => ?_, fun shared isFiller code => ?_, fun refused => ?_⟩
    · have kind : h.kind = .data := isData.1
      rw [okay, State.headerWalked_data (s := freed) set (tests_iff.2 ⟨shared, .inl isData⟩) kind]
    · have kind : h.kind = .filler := isFiller.1
      have size : walkLength freed.log.ringSize c.position h = S - c.position := by
        rw [walkLength, kind, LogController.ringSize_eq set]
      rw [okay, State.headerWalked_filler (tests_iff.2 ⟨shared, .inr isFiller⟩) kind, if_pos code,
        State.acceptWalked_eq last size]
      rfl
    · rw [okay, error]
      refine congrArg Host.Outcome.next ?_
      by_cases tests : freed.log.walkTests c h (unassignedClear bytes) = true
      · obtain ⟨shared, isData | isFiller⟩ := tests_iff.1 tests
        · exact absurd ⟨shared, .inl isData⟩ refused
        · rw [State.headerWalked_filler tests isFiller.1]
          exact if_neg fun code => refused ⟨shared, .inr ⟨isFiller, code⟩⟩
      · exact State.headerWalked_fails tests
  · intro s o rest c h newest bytes outstanding orphan owner read whole scan examined data last right
    let freed : State := { s with port := { s.port with outstanding := rest } }
    have okay : exec (.walkRecordReadResponse (.okay bytes)) s = .next (freed.recordWalked c h bytes) := by
      rw [exec_walkRecord_okay outstanding orphan owner (by simp [responseFits, read, whole]) scan examined,
        State.freeSlot_eq outstanding]
    have error : exec (.walkRecordReadResponse .error) s = .next (freed.completeAttach c) := by
      rw [exec_walkError outstanding orphan (.inr ⟨owner, rfl, by simp [examined]⟩) scan, State.freeSlot_eq outstanding]
    have size : walkLength freed.log.ringSize c.position h = 16 + 32 * h.count := by rw [walkLength, data, recordLength]
    refine ⟨fun code => ?_, fun wrong => ?_⟩
    · rw [okay, State.recordWalked, if_pos code, State.acceptWalked_eq last size]
      rfl
    · rw [okay, error, State.recordWalked, if_neg wrong]

end Sys2Proof.Machine
end

/-! # Events read and cleared, and the FAULT strobe (O18, O19, O21) -/

section
-- One proof after another: the threads of many at once outgrow the check's memory limit.
set_option Elab.async false
namespace Sys2Proof.Machine

/-! ## POP_EVENT (R173, R204) -/

theorem detailPresent_iff (d : Detail) : detailPresent d = true ↔ d ≠ .absent ∧ d ≠ .header := by
  cases d <;> simp [detailPresent]

/-- The presence byte is the sum of the bits of what the event carries (R204). -/
theorem presenceByte_eq (e : Event) :
    presenceByte e = BitVec.ofNat 8 ((if e.address.isSome then 1 else 0) + (if e.requester.isSome then 2 else 0) +
      (if e.detail ≠ .absent ∧ e.detail ≠ .header then 4 else 0) + (if e.detail = .header then 8 else 0)) := by
  have bits (header detail requester address : Bool) :
      0#4 ++ BitVec.ofBool header ++ BitVec.ofBool detail ++ BitVec.ofBool requester ++ BitVec.ofBool address =
        BitVec.ofNat 8 ((if address then 1 else 0) + (if requester then 2 else 0) + (if detail then 4 else 0) +
          (if header then 8 else 0)) := by
    revert header detail requester address
    decide
  simpa only [presenceByte, detailPresent_iff, beq_iff_eq] using
    bits (e.detail == .header) (detailPresent e.detail) e.requester.isSome e.address.isSome

/-- The requester byte is 0 without a requester (R204). -/
theorem requesterByte_eq (r : Option Requester) :
    (r.map fun q => BitVec.ofNat 8 q.val).getD 0 = BitVec.ofNat 8 ((r.map Fin.val).getD 0) := by
  cases r <;> rfl

/-- Settles O18: the results are `eventBytes`, field by field. -/
theorem popEventReturnsTheOldestEntry : Obligations.PopEventReturnsTheOldestEntry := by
  intro s running
  refine ⟨fun empty => ?_, fun e rest queue => ⟨rfl, ?_⟩⟩
  · refine congrArg Host.Outcome.next ((State.onFrame_eq running _).trans ?_)
    rw [empty]
    rfl
  · refine congrArg Host.Outcome.next ((State.onFrame_eq running _).trans ?_)
    rw [queue, ← presenceByte_eq, ← requesterByte_eq]
    rfl

/-! ## CLEAR_SUMMARY (R175) -/

/-- The summary emptied and the lost flag cleared (R175). -/
def EventQueue.cleared (q : EventQueue) : EventQueue := { q with lost := false, summary := 0 }

theorem exec_clearSummary {s : State} (running : s.rstLow = false) :
    exec .clearSummary s = .next ((s.withEvents s.events.cleared).respond .done []) :=
  congrArg Host.Outcome.next (State.onFrame_eq running _)

/-- Whether an entry is kept or lost depends on the queue alone (R170). -/
theorem EventQueue.cleared_post (q : EventQueue) (e : Event) :
    (q.cleared.post e).queue = (q.post e).queue ∧ (q.cleared.post e).lost = decide (8 ≤ q.queue.length) := by
  by_cases room : q.queue.length < 8
  · obtain ⟨kept, found⟩ := q.cleared.post_room e room
    exact ⟨kept.trans (q.post_room e room).1.symm, found.trans (decide_eq_false (Nat.not_le.2 room)).symm⟩
  · have full := Nat.le_of_not_lt room
    obtain ⟨dropped, lost⟩ := q.cleared.post_full e full
    exact ⟨dropped.trans (q.post_full e full).1.symm, lost.trans (decide_eq_true full).symm⟩

/-- Settles O19: whichever comes first, the queue is the one the posting leaves. -/
theorem clearSummaryClearsSummaryAndLost : Obligations.ClearSummaryClearsSummaryAndLost := by
  intro s running
  refine ⟨exec_clearSummary running, fun kind address requester detail t u cleared posted => ?_⟩
  cases (exec_clearSummary running).symm.trans cleared
  cases (exec_clearSummary (s := s.post kind address requester detail) running).symm.trans posted
  obtain ⟨queue, lost⟩ := s.events.cleared_post
    { kind := kind, epoch := s.log.currentEpoch, address := address, requester := requester, detail := detail }
  refine ⟨rfl, rfl, fun other => ?_, lost, queue.symm, ?_⟩
  · exact (s.events.cleared.post_summary _ other).trans (by simp [EventQueue.cleared])
  · exact congrArg (fun q : List Event => !q.isEmpty) queue.symm

/-! ## FAULT_STROBE (R161) -/

section
variable {s : State}

/-- The state in which a strobe's action is made: FAULT_SEEN is posted, with the action in force (R161). -/
def State.faultSeen (s : State) : State := s.report .faultSeen (.action s.log.policy.faultAction)

theorem exec_faultStrobe (running : s.rstLow = false) : exec .faultStrobe s = .next s.faultStrobe :=
  congrArg Host.Outcome.next (if_neg (by simp [running]))

/-- In DETACHED, and under IGNORE, the strobe only posts FAULT_SEEN (R161). -/
theorem State.faultStrobe_seen (nothing : s.log.engine = .detached ∨ s.log.policy.faultAction = .ignore) :
    s.faultStrobe = s.faultSeen := by
  by_cases detached : s.log.engine = .detached
  · exact if_pos detached
  · refine (if_neg detached).trans ?_
    rw [State.faultSeen, nothing.resolve_left detached]

/-- Under FREEZE the strobe sets the freeze flag (R161). -/
theorem State.faultStrobe_freeze (attached : s.log.engine ≠ .detached)
    (action : s.log.policy.faultAction = .freeze) : s.faultStrobe = s.faultSeen.setFreeze := by
  refine (if_neg attached).trans ?_
  rw [State.faultSeen, action]

/-- Under FREEZE_ROLLBACK the strobe also asks for a rollback (R161, R163). -/
theorem State.faultStrobe_rollback (attached : s.log.engine ≠ .detached)
    (action : s.log.policy.faultAction = .freezeRollback) : s.faultStrobe = s.faultSeen.setFreeze.faultRollback := by
  refine (if_neg attached).trans ?_
  rw [State.faultSeen, action]

theorem State.faultRollback_accepted (armed : s.log.engine = .armed) : s.faultRollback = s.acceptFaultRollback := by
  rw [State.faultRollback, armed]

theorem State.faultRollback_dropped (failed : s.log.engine = .logFault) :
    s.faultRollback = s.report .faultDropped (.prevented .logFault) := by
  rw [State.faultRollback, failed]

/-- While a long operation is in flight the fault is latched (R164). -/
theorem State.faultRollback_latched (working : s.log.engine ∉ [EngineState.detached, .armed, .logFault]) :
    s.faultRollback = s.setFaultLatch true := by
  unfold State.faultRollback
  split
  case h_1 here => exact absurd (here ▸ working) (by simp)
  case h_2 here => exact absurd (here ▸ working) (by simp)
  case h_3 here => exact absurd (here ▸ working) (by simp)
  all_goals rfl

end

/-- Settles O21: the action is `State.faultStrobe`'s, and the rollback is the one of `exec_rollback_zero`. -/
theorem faultStrobeAppliesTheAction : Obligations.FaultStrobeAppliesTheAction := by
  intro s running
  rw [exec_faultStrobe running]
  refine ⟨fun nothing => ?_, fun attached action => ?_, fun failed action => ?_, fun working action => ?_,
    fun armed action _ => ?_⟩
  · rw [State.faultStrobe_seen nothing]
    rfl
  · rw [State.faultStrobe_freeze attached action]
    rfl
  · rw [State.faultStrobe_rollback (by simp [failed]) action,
      State.faultRollback_dropped (s := s.faultSeen.setFreeze) failed]
    rfl
  · rw [State.faultStrobe_rollback (fun here => working (by simp [here])) action,
      State.faultRollback_latched (s := s.faultSeen.setFreeze) working]
    rfl
  · obtain ⟨link, answer⟩ := exec_rollback_zero (s := s.faultSeen.setFreeze) running armed
    refine ⟨_, answer, ?_⟩
    rw [State.faultStrobe_rollback (by simp [armed]) action,
      State.faultRollback_accepted (s := s.faultSeen.setFreeze) armed]
    exact congrArg Host.Outcome.next (State.acceptFaultRollback_withLink (s := s.faultSeen.setFreeze) s.rstLow s.link)

end Sys2Proof.Machine
end

/-! # What only its own commands change of the freeze flag (O10)

One equation per operation that changes the Log Controller says that it leaves the flag; those that leave the Log
Controller have theirs among the laws. -/

section
-- One proof after another: the threads of many at once outgrow the check's memory limit.
set_option Elab.async false
namespace Sys2Proof.Machine

variable {s t : State}

/-! ## Operations that leave the flag -/

/-- Neither a walk nor a low-space comparison has a part in the flag (R12, R63). -/
theorem WalkFrame.freeze (frame : WalkFrame s t) : t.log.freeze = s.log.freeze := congrArg (·.log.freeze) frame

/-- Nor has the creation of records (R65). -/
theorem Created.freeze (created : Created s t) : t.log.freeze = s.log.freeze := congrArg (·.freeze) created.log

@[simp] theorem State.compareLowSpace_freeze (s : State) : s.compareLowSpace.log.freeze = s.log.freeze :=
  s.compareLowSpace_walkFrame.freeze

@[simp] theorem State.walk_freeze (s : State) : s.walk.log.freeze = s.log.freeze := s.walk_walkFrame.freeze

@[simp] theorem State.walkStalled_freeze (s : State) : s.walkStalled.log.freeze = s.log.freeze :=
  s.walkStalled_walkFrame.freeze

@[simp] theorem State.createRecord_freeze (s : State) (e : Entry) (run : Run) (poison : Bool) (data : List Byte) :
    (s.createRecord e run poison data).log.freeze = s.log.freeze :=
  ((Created.appendFiller _ _).trans (Created.enterRecord _ _ _ _ _)).freeze

@[simp] theorem State.createAllDeferred_freeze (s : State) : s.createAllDeferred.log.freeze = s.log.freeze :=
  (Created.foldl _ s).freeze

@[simp] theorem State.setEngine_freeze (s : State) (x : EngineState) : (s.setEngine x).log.freeze = s.log.freeze := rfl
@[simp] theorem State.setFaultLatch_freeze (s : State) (set : Bool) :
    (s.setFaultLatch set).log.freeze = s.log.freeze := rfl
@[simp] theorem State.setCheckpointLatch_freeze (s : State) (set : Bool) :
    (s.setCheckpointLatch set).log.freeze = s.log.freeze := rfl
@[simp] theorem State.restartTimer_freeze (s : State) : s.restartTimer.log.freeze = s.log.freeze := rfl
@[simp] theorem State.acceptCheckpoint_freeze (s : State) : s.acceptCheckpoint.log.freeze = s.log.freeze := rfl
@[simp] theorem State.placeHeader_freeze (s : State) (p : HeaderPurpose) :
    (s.placeHeader p).log.freeze = s.log.freeze := rfl
@[simp] theorem State.dropMarks_freeze (s : State) (n : Nat) : (s.dropMarks n).log.freeze = s.log.freeze := rfl

@[simp] theorem State.askHeader_freeze (s : State) (p : HeaderPurpose) :
    (s.askHeader p).log.freeze = s.log.freeze := by
  obtain ⟨_, _, log⟩ := s.askHeader_log p
  rw [log]

@[simp] theorem State.abandonCaptures_freeze (s : State) (p : Entry → Bool) :
    (s.abandonCaptures p).log.freeze = s.log.freeze := by
  rw [State.abandonCaptures_eq]

@[simp] theorem State.refuseEntries_freeze (s : State) (p : Entry → Bool) (reason : RefusalReason) :
    (s.refuseEntries p reason).log.freeze = s.log.freeze := by
  rw [State.refuseEntries_eq]

@[simp] theorem State.dropCheckpointLatch_freeze (s : State) : s.dropCheckpointLatch.log.freeze = s.log.freeze := by
  rw [State.dropCheckpointLatch_eq]

@[simp] theorem State.dropFaultLatch_freeze (s : State) (prevented : EngineState) :
    (s.dropFaultLatch prevented).log.freeze = s.log.freeze := by
  rw [State.dropFaultLatch_eq]

@[simp] theorem State.postDropped_log (s : State) (dropped : Option Num) : (s.postDropped dropped).log = s.log := by
  cases dropped <;> rfl

@[simp] theorem State.postDataError_log (s : State) (e : Entry) (response : MemResponse) :
    (s.postDataError e response).log = s.log := by
  cases response <;> rfl

/-! ## The return to ARMED and the stream's responses -/

@[simp] theorem State.acceptRollback_freeze (s : State) (target : Mark) :
    (s.acceptRollback target).log.freeze = s.log.freeze := by
  rw [State.acceptRollback_log]

@[simp] theorem State.acceptFaultRollback_freeze (s : State) : s.acceptFaultRollback.log.freeze = s.log.freeze := by
  unfold State.acceptFaultRollback
  split
  · rfl
  · exact s.acceptRollback_freeze _

@[simp] theorem State.finishArmed_freeze (s : State) : s.finishArmed.log.freeze = s.log.freeze := by
  unfold State.finishArmed State.actOnLatches
  repeat' split
  all_goals simp

@[simp] theorem State.cancelAtLoggingStart_freeze (s : State) : s.cancelAtLoggingStart.log.freeze = s.log.freeze := by
  simp [State.cancelAtLoggingStart]

@[simp] theorem State.finishHeader_freeze (s : State) (purpose : HeaderPurpose) :
    (s.finishHeader purpose).log.freeze = s.log.freeze := by
  cases purpose <;> simp [State.finishHeader, State.endOperation, State.endRollback, State.endAttach]

@[simp] theorem State.dropForBoundary_freeze (s : State) : s.dropForBoundary.log.freeze = s.log.freeze := by
  unfold State.dropForBoundary
  split <;> simp

@[simp] theorem State.boundary_freeze (s : State) (reserved : Num) :
    (s.boundary reserved).log.freeze = s.log.freeze := by
  simp [State.boundary, State.openMark, State.closeMark, LogController.appendMark]

@[simp] theorem State.truncateStream_freeze (s : State) (failed : StreamItem → Bool) :
    (s.truncateStream failed).log.freeze = s.log.freeze := by
  obtain ⟨_, _, rewound⟩ := s.log.rewind_eq (streamRecords (discardedItems s.stream failed))
  exact congrArg (·.freeze) rewound

@[simp] theorem State.enterLogFault_freeze (s : State) (item : StreamItem) (failed : StreamItem → Bool) :
    (s.enterLogFault item failed).log.freeze = s.log.freeze := by
  simp [State.enterLogFault, State.endInLogFault, State.dropLatches]

/-! ## Rollback -/

@[simp] theorem State.recordBad_freeze (s : State) (cursor : RollbackCursor) (replay : Replay) (position : Nat)
    (reason : BadReason) : (s.recordBad cursor replay position reason).log.freeze = s.log.freeze := rfl

@[simp] theorem State.haltReplay_freeze (s : State) (cursor : RollbackCursor) (replay : Replay) :
    (s.haltReplay cursor replay).log.freeze = s.log.freeze := rfl

@[simp] theorem State.completeRollback_freeze (s : State) (cursor : RollbackCursor) (replay : Replay) :
    (s.completeRollback cursor replay).log.freeze = s.log.freeze := by
  simp [State.completeRollback]

@[simp] theorem State.advanceReplay_freeze (s : State) (cursor : RollbackCursor) (replay : Replay) :
    (s.advanceReplay cursor replay).log.freeze = s.log.freeze := by
  unfold State.advanceReplay State.readRecord
  dsimp only
  repeat' split
  all_goals simp

@[simp] theorem State.moveBack_freeze (s : State) (cursor : RollbackCursor) (replay : Replay) (h : RecordHeader)
    (position : Nat) : (s.moveBack cursor replay h position).log.freeze = s.log.freeze := by
  unfold State.moveBack State.goOn State.moveLog
  split <;> simp

@[simp] theorem State.recordRead_freeze (s : State) (cursor : RollbackCursor) (replay : Replay) (position length : Nat)
    (bytes : List Byte) : (s.recordRead cursor replay position length bytes).log.freeze = s.log.freeze := by
  unfold State.recordRead State.applyRecord
  repeat' split
  all_goals simp

@[simp] theorem State.restored_freeze (s : State) (cursor : RollbackCursor) (replay : Replay) (h : RecordHeader)
    (position : Nat) (result : WriteResult) :
    (s.restored cursor replay h position result).log.freeze = s.log.freeze := by
  cases result <;> simp [State.restored]

@[simp] theorem State.haltAt_freeze (s : State) (cursor : RollbackCursor) (replay : Replay) :
    (s.haltAt cursor replay).log.freeze = s.log.freeze := by
  unfold State.haltAt
  split <;> simp

/-! ## FORMAT, ATTACH and DETACH -/

@[simp] theorem State.failFormat_freeze (s : State) (copy : CopyName) :
    (s.failFormat copy).log.freeze = s.log.freeze := State.dropFaultLatch_freeze _ _

@[simp] theorem State.finishFormat_freeze (s : State) : s.finishFormat.log.freeze = s.log.freeze := by
  simp [State.finishFormat]

@[simp] theorem State.failAttach_freeze (s : State) (address : Option Num) (reason : AttachFailure) :
    (s.failAttach address reason).log.freeze = s.log.freeze := State.dropFaultLatch_freeze _ _

@[simp] theorem State.acceptWalked_freeze (s : State) (c : ScanCursor) (h : RecordHeader) :
    (s.acceptWalked c h).log.freeze = s.log.freeze := by
  simp [State.acceptWalked, State.readWalkHeader]

@[simp] theorem State.completeAttach_freeze (s : State) (c : ScanCursor) :
    (s.completeAttach c).log.freeze = s.log.freeze := by
  unfold State.completeAttach
  split <;> simp [LogController.takeLog]

@[simp] theorem State.copyReturned_freeze (s : State) (c : ScanCursor) (copy : CopyName) (response : MemResponse) :
    (s.copyReturned c copy response).log.freeze = s.log.freeze := by
  unfold State.copyReturned State.readCopyB State.chooseAndWalk State.startWalk State.readWalkHeader
  repeat' split
  all_goals simp

@[simp] theorem State.headerWalked_freeze (s : State) (c : ScanCursor) (bytes : List Byte) :
    (s.headerWalked c bytes).log.freeze = s.log.freeze := by
  unfold State.headerWalked
  dsimp only
  repeat' split
  all_goals simp

@[simp] theorem State.recordWalked_freeze (s : State) (c : ScanCursor) (h : RecordHeader) (bytes : List Byte) :
    (s.recordWalked c h bytes).log.freeze = s.log.freeze := by
  unfold State.recordWalked
  split <;> simp

@[simp] theorem State.startInDetached_freeze (s : State) (accept : State → State)
    (accepted : ∀ u, (accept u).log.freeze = u.log.freeze) :
    (s.startInDetached accept).log.freeze = s.log.freeze := by
  unfold State.startInDetached
  repeat' split
  all_goals simp [accepted]

@[simp] theorem State.finishDetach_freeze (s : State) : s.finishDetach.log.freeze = s.log.freeze :=
  State.dropFaultLatch_freeze _ _

/-! ## Epochs, the window and the ports -/

@[simp] theorem State.checkpointStrobe_freeze (s : State) (source : CheckpointSource) :
    (s.checkpointStrobe source).log.freeze = s.log.freeze := by
  unfold State.checkpointStrobe
  split <;> simp

@[simp] theorem State.acceptRelease_freeze (s : State) (n : Nat) : (s.acceptRelease n).log.freeze = s.log.freeze := by
  simp [State.acceptRelease]

@[simp] theorem State.acceptDiscard_freeze (s : State) : s.acceptDiscard.log.freeze = s.log.freeze := by
  simp [State.acceptDiscard, State.restartUncommitted, LogController.discarded]

@[simp] theorem State.setPolicies_freeze (s : State) (p : Policy) : (s.setPolicies p).log.freeze = s.log.freeze := by
  unfold State.setPolicies State.compareUnless State.walkUnless
  repeat' split
  all_goals simp

@[simp] theorem State.leaveOrdered_freeze (s : State) (e : Entry) : (s.leaveOrdered e).log.freeze = s.log.freeze := by
  unfold State.leaveOrdered State.leaveLoggedWrite State.holdEntry State.sendTo
  repeat' split
  all_goals simp

@[simp] theorem State.takeRequest_log (s : State) (r : HostRequest) : (s.takeRequest r).log = s.log := by
  unfold State.takeRequest
  dsimp only
  repeat' split
  all_goals rfl

@[simp] theorem State.persistRecord_freeze (s : State) (r : Record) :
    (s.persistRecord r).log.freeze = s.log.freeze := rfl

@[simp] theorem State.grant_log (s : State) (g : Grant) : (s.grant g).log = s.log := by
  cases g <;> rfl

/-! ## Every command -/

/-- The commands that may set the flag (R167). -/
def SetsFreeze (c : Instr) : Prop := c = .freeze ∨ c = .faultStrobe ∨ c = .epochTimer

/-- The commands that may clear the flag (R167). -/
def ClearsFreeze (c : Instr) : Prop := c = .thaw ∨ isReset c = true

/-- Whatever state an outcome leads to has the freeze flag of `s`. -/
def FreezeKept (s : State) (o : Host.Outcome State Fault Refusal) : Prop := ∀ t, o = .next t → t.log.freeze = s.log.freeze

@[simp] theorem freezeKept_next : FreezeKept s (.next t) ↔ t.log.freeze = s.log.freeze :=
  ⟨fun kept => kept t rfl, by rintro kept _ ⟨⟩; exact kept⟩

/-- While RST is low no frame is taken, and the flag stays. -/
theorem FreezeKept.onFrame {take : State → State} (taken : (take s).log.freeze = s.log.freeze) :
    FreezeKept s (.next (s.onFrame take)) := by
  rw [freezeKept_next, State.onFrame]
  split
  · rfl
  · exact taken

/-! ### The part's own happenings -/

theorem execHostRequestAccept_freeze (arriving : Option HostRequest) :
    FreezeKept s (execHostRequestAccept arriving s) := by
  unfold execHostRequestAccept State.arrive
  dsimp only
  repeat' split
  all_goals simp

theorem execCaptureDecision_freeze : FreezeKept s (execCaptureDecision s) := by
  unfold execCaptureDecision
  split <;> simp

theorem execCaptureWalk_freeze : FreezeKept s (execCaptureWalk s) := by
  unfold execCaptureWalk
  split <;> simp

theorem execHeaderWritePlacement_freeze : FreezeKept s (execHeaderWritePlacement s) := by
  unfold execHeaderWritePlacement
  repeat' split
  all_goals simp

theorem execMemoryGrant_freeze : FreezeKept s (execMemoryGrant s) := by
  unfold execMemoryGrant
  repeat' split
  all_goals simp

theorem execCheckpointBoundary_freeze : FreezeKept s (execCheckpointBoundary s) := by
  unfold execCheckpointBoundary
  split <;> simp

theorem execQuiesceComplete_freeze : FreezeKept s (execQuiesceComplete s) := by
  unfold execQuiesceComplete State.startReplay
  repeat' split
  all_goals simp

theorem execDetachComplete_freeze : FreezeKept s (execDetachComplete s) := by
  unfold execDetachComplete
  split <;> simp

theorem execResponseDelivery_freeze : FreezeKept s (execResponseDelivery s) := by
  unfold execResponseDelivery
  split <;> simp

theorem execHoldTimeout_freeze : FreezeKept s (execHoldTimeout s) := by
  unfold execHoldTimeout
  split <;> simp

theorem execCkptStrobe_freeze : FreezeKept s (execCkptStrobe s) := by
  unfold execCkptStrobe
  split <;> simp

/-! ### Memory responses -/

theorem execCaptureReadResponse_freeze (response : MemResponse) : FreezeKept s (execCaptureReadResponse response s) := by
  unfold execCaptureReadResponse State.deferRun
  repeat' split
  all_goals simp

theorem execAbandonedReadReturn_freeze (response : MemResponse) : FreezeKept s (execAbandonedReadReturn response s) := by
  unfold execAbandonedReadReturn State.dropRun
  repeat' split
  all_goals simp

theorem execRecordWriteResponse_freeze (result : WriteResult) : FreezeKept s (execRecordWriteResponse result s) := by
  unfold execRecordWriteResponse
  repeat' split
  all_goals simp

theorem execHeaderWriteResponse_freeze (result : WriteResult) : FreezeKept s (execHeaderWriteResponse result s) := by
  unfold execHeaderWriteResponse State.persistHeader
  repeat' split
  all_goals simp

theorem execDiscardedItemResponse_freeze (result : WriteResult) :
    FreezeKept s (execDiscardedItemResponse result s) := by
  unfold execDiscardedItemResponse
  split <;> simp

theorem execRollbackRecordReadResponse_freeze (response : MemResponse) :
    FreezeKept s (execRollbackRecordReadResponse response s) := by
  unfold execRollbackRecordReadResponse
  repeat' split
  all_goals simp

theorem execRestoreWriteResponse_freeze (result : WriteResult) : FreezeKept s (execRestoreWriteResponse result s) := by
  unfold execRestoreWriteResponse
  repeat' split
  all_goals simp

theorem execFormatCopyWriteResponse_freeze (result : WriteResult) :
    FreezeKept s (execFormatCopyWriteResponse result s) := by
  unfold execFormatCopyWriteResponse
  split <;> simp

theorem execAttachHeaderReadResponse_freeze (response : MemResponse) :
    FreezeKept s (execAttachHeaderReadResponse response s) := by
  unfold execAttachHeaderReadResponse
  repeat' split
  all_goals simp

theorem execWalkHeaderReadResponse_freeze (response : MemResponse) :
    FreezeKept s (execWalkHeaderReadResponse response s) := by
  unfold execWalkHeaderReadResponse
  repeat' split
  all_goals simp

theorem execWalkRecordReadResponse_freeze (response : MemResponse) :
    FreezeKept s (execWalkRecordReadResponse response s) := by
  unfold execWalkRecordReadResponse
  repeat' split
  all_goals simp

theorem execHostAccessResponse_freeze (response : MemResponse) : FreezeKept s (execHostAccessResponse response s) := by
  unfold execHostAccessResponse
  repeat' split
  all_goals simp

theorem execOrphanResponse_freeze (response : MemResponse) : FreezeKept s (execOrphanResponse response s) := by
  unfold execOrphanResponse
  repeat' split
  all_goals simp

/-! ### Link commands -/

theorem execFrameDiscard_freeze (bits : List Bool) : FreezeKept s (execFrameDiscard bits s) := by
  refine .onFrame ?_
  split <;> rfl

theorem execSetRegion_freeze (index : Byte) (base size : Num) (mode mask : Byte) :
    FreezeKept s (execSetRegion index base size mode mask s) := by
  refine .onFrame ?_
  repeat' split
  all_goals rfl

theorem execClearRegion_freeze (index : Byte) : FreezeKept s (execClearRegion index s) := by
  refine .onFrame ?_
  repeat' split
  all_goals rfl

theorem execReadRegion_freeze (index : Byte) : FreezeKept s (execReadRegion index s) := by
  refine .onFrame ?_
  split <;> rfl

theorem execSetLog_freeze (base size : Num) : FreezeKept s (execSetLog base size s) := by
  refine .onFrame ?_
  repeat' split
  all_goals rfl

theorem execDetach_freeze : FreezeKept s (execDetach s) := by
  refine .onFrame ?_
  split <;> rfl

theorem execCheckpoint_freeze : FreezeKept s (execCheckpoint s) := by
  refine .onFrame ?_
  split <;> rfl

theorem execRelease_freeze (n : Byte) : FreezeKept s (execRelease n s) := by
  refine .onFrame ?_
  repeat' split
  all_goals simp

theorem execDiscard_freeze : FreezeKept s (execDiscard s) := by
  refine .onFrame ?_
  split <;> simp

theorem execRollback_freeze (depth : Byte) : FreezeKept s (execRollback depth s) := by
  refine .onFrame ?_
  repeat' split
  all_goals simp

theorem execHalt_freeze : FreezeKept s (execHalt s) := by
  refine .onFrame ?_
  dsimp only
  repeat' split
  all_goals simp

theorem execResume_freeze : FreezeKept s (execResume s) := by
  refine .onFrame ?_
  dsimp only
  repeat' split
  all_goals simp

theorem execSetPolicy_freeze (logFull faultAction : Byte) (holdLimit : BitVec 16) (threshold : Byte)
    (prescaler : BitVec 16) (reference : Num) (timerAction : Byte) :
    FreezeKept s (execSetPolicy logFull faultAction holdLimit threshold prescaler reference timerAction s) := by
  refine .onFrame ?_
  split <;> simp

theorem execReadMark_freeze (index : Byte) : FreezeKept s (execReadMark index s) := by
  refine .onFrame ?_
  split <;> rfl

theorem execPopEvent_freeze : FreezeKept s (execPopEvent s) := by
  refine .onFrame ?_
  split <;> rfl

/-- Every other command leaves the flag, one line for each row of the opcode table. -/
theorem exec_freezeKept (c : Instr) (s : State) (noSet : ¬SetsFreeze c) (noClear : ¬ClearsFreeze c) :
    FreezeKept s (exec c s) := by
  cases c with
  | powerOn => exact absurd (.inr rfl) noClear
  | rst edge =>
    cases edge with
    | falls => exact absurd (.inr rfl) noClear
    | rises => exact freezeKept_next.2 rfl
  | hostRequestAccept arriving => exact execHostRequestAccept_freeze arriving
  | captureDecision => exact execCaptureDecision_freeze
  | captureWalk => exact execCaptureWalk_freeze
  | headerWritePlacement => exact execHeaderWritePlacement_freeze
  | memoryGrant => exact execMemoryGrant_freeze
  | captureReadResponse response => exact execCaptureReadResponse_freeze response
  | abandonedReadReturn response => exact execAbandonedReadReturn_freeze response
  | recordWriteResponse result => exact execRecordWriteResponse_freeze result
  | headerWriteResponse result => exact execHeaderWriteResponse_freeze result
  | discardedItemResponse result => exact execDiscardedItemResponse_freeze result
  | checkpointBoundary => exact execCheckpointBoundary_freeze
  | quiesceComplete => exact execQuiesceComplete_freeze
  | rollbackRecordReadResponse response => exact execRollbackRecordReadResponse_freeze response
  | restoreWriteResponse result => exact execRestoreWriteResponse_freeze result
  | formatCopyWriteResponse result => exact execFormatCopyWriteResponse_freeze result
  | attachHeaderReadResponse response => exact execAttachHeaderReadResponse_freeze response
  | walkHeaderReadResponse response => exact execWalkHeaderReadResponse_freeze response
  | walkRecordReadResponse response => exact execWalkRecordReadResponse_freeze response
  | hostAccessResponse response => exact execHostAccessResponse_freeze response
  | orphanResponse response => exact execOrphanResponse_freeze response
  | strayResponse response => exact freezeKept_next.2 rfl
  | detachComplete => exact execDetachComplete_freeze
  | responseDelivery => exact execResponseDelivery_freeze
  | holdTimeout => exact execHoldTimeout_freeze
  | epochTimer => exact absurd (.inr (.inr rfl)) noSet
  | ckptStrobe => exact execCkptStrobe_freeze
  | faultStrobe => exact absurd (.inr (.inl rfl)) noSet
  | frameDiscard bits => exact execFrameDiscard_freeze bits
  | nop => exact .onFrame rfl
  | readStatus => exact .onFrame rfl
  | setRegion index base size mode mask => exact execSetRegion_freeze index base size mode mask
  | clearRegion index => exact execClearRegion_freeze index
  | readRegion index => exact execReadRegion_freeze index
  | setLog base size => exact execSetLog_freeze base size
  | format => exact .onFrame (s.startInDetached_freeze _ fun _ => rfl)
  | attach => exact .onFrame (s.startInDetached_freeze _ fun _ => rfl)
  | detach => exact execDetach_freeze
  | checkpoint => exact execCheckpoint_freeze
  | release n => exact execRelease_freeze n
  | discard => exact execDiscard_freeze
  | rollback depth => exact execRollback_freeze depth
  | halt => exact execHalt_freeze
  | resume => exact execResume_freeze
  | freeze => exact absurd (.inl rfl) noSet
  | thaw => exact absurd (.inl rfl) noClear
  | setPolicy logFull faultAction holdLimit threshold prescaler reference timerAction =>
    exact execSetPolicy_freeze logFull faultAction holdLimit threshold prescaler reference timerAction
  | readPolicy => exact .onFrame rfl
  | readMark index => exact execReadMark_freeze index
  | popEvent => exact execPopEvent_freeze
  | clearSummary => exact .onFrame rfl
  | restart => exact absurd (.inr rfl) noClear
  | tick => exact freezeKept_next.2 rfl

/-! ## The commands of the flag (R167) -/

/-- What a link command does to the flag is nothing while RST is low. -/
theorem State.onFrame_freeze (s : State) (take : State → State) :
    (s.onFrame take).log.freeze = s.log.freeze ∨ (s.onFrame take).log.freeze = (take s).log.freeze := by
  unfold State.onFrame
  split
  · exact .inl rfl
  · exact .inr rfl

theorem State.timerAction_freeze (s : State) :
    s.timerAction.log.freeze = s.log.freeze ∨ s.timerAction.log.freeze = true := by
  unfold State.timerAction
  split
  · exact .inl rfl
  · exact .inl (s.checkpointStrobe_freeze .timer)
  · exact .inr rfl

/-- The rollback that a strobe asks for has no part in the flag. -/
theorem State.faultRollback_freeze (s : State) : s.faultRollback.log.freeze = s.log.freeze := by
  unfold State.faultRollback
  split <;> simp

theorem State.faultStrobe_setsFreeze (s : State) :
    s.faultStrobe.log.freeze = s.log.freeze ∨ s.faultStrobe.log.freeze = true := by
  unfold State.faultStrobe
  dsimp only
  split
  · exact .inl rfl
  · split
    · exact .inl rfl
    · exact .inr rfl
    · exact .inr (State.faultRollback_freeze _)

/-- FREEZE, a FAULT strobe and the epoch timer never clear the flag. -/
theorem exec_setsFreeze {c : Instr} (sets : SetsFreeze c) (taken : exec c s = .next t) :
    t.log.freeze = s.log.freeze ∨ t.log.freeze = true := by
  obtain rfl | rfl | rfl := sets
  · cases taken
    exact s.onFrame_freeze _
  · cases taken
    split
    · exact .inl rfl
    · exact s.faultStrobe_setsFreeze
  · cases due : s.log.timer.due with
    | none =>
      rw [exec, execEpochTimer, due] at taken
      cases taken
      exact .inl rfl
    | some count =>
      cases (exec_epochTimer due).symm.trans taken
      exact (s.fireTimer count).timerAction_freeze

theorem State.thaw_freeze (s : State) : s.thaw.log.freeze = false := by
  unfold State.thaw
  split
  · rfl
  · next clear => exact Bool.eq_false_of_not_eq_true clear

/-- THAW and the resets never set the flag. -/
theorem exec_clearsFreeze {c : Instr} (clears : ClearsFreeze c) (taken : exec c s = .next t) :
    t.log.freeze = s.log.freeze ∨ t.log.freeze = false := by
  obtain rfl | reset := clears
  · cases taken
    exact (s.onFrame_freeze _).imp_right fun thawed => thawed.trans (State.thaw_freeze _)
  · unfold isReset at reset
    split at reset
    · cases taken
      exact .inr rfl
    · cases taken
      exact .inr rfl
    · cases taken
      exact s.onFrame_freeze _
    · cases reset

/-- Settles O10: only the flag's own commands change it, and each of them moves it one way only. -/
theorem freezeFlagChangesOnlyByItsCommands : Obligations.FreezeFlagChangesOnlyByItsCommands := by
  intro c s t taken
  have changed (different : t.log.freeze ≠ s.log.freeze) : SetsFreeze c ∨ ClearsFreeze c := by
    by_contra neither
    obtain ⟨noSet, noClear⟩ := not_or.1 neither
    exact different (exec_freezeKept c s noSet noClear t taken)
  constructor
  · intro clear set
    refine (changed (by simp [clear, set])).resolve_right fun clears => ?_
    obtain same | cleared := exec_clearsFreeze clears taken
    · simp [clear, set] at same
    · simp [set] at cleared
  · intro set clear
    refine (changed (by simp [clear, set])).resolve_left fun sets => ?_
    obtain same | left := exec_setsFreeze sets taken
    · simp [clear, set] at same
    · simp [clear] at left

end Sys2Proof.Machine
end

/-! # Frames of the management link (O13, O14) -/

section
-- One proof after another: the threads of many at once outgrow the check's memory limit.
set_option Elab.async false
namespace Sys2Proof.Machine

/-! ## A frame as bytes (R179, R187) -/

/-- The argument byte count of a frame stands in its second byte whole (R179). -/
theorem countByte_toNat {arguments : List Byte} (few : arguments.length ≤ 16) :
    (BitVec.ofNat 8 arguments.length).toNat = arguments.length := by
  rw [BitVec.toNat_ofNat]
  omega

/-- A whole frame is read by its number and arguments if its CRC is right, and refused otherwise (R179, R180). -/
theorem decodeFrame_message (number : Byte) (arguments : List Byte) (code : Byte) (few : arguments.length ≤ 16) :
    decodeFrame (frameMessage number arguments ++ [code]) =
      if code = crc8 (frameMessage number arguments) then decodeCommand number arguments else none := by
  have read : decodeFrame (frameMessage number arguments ++ [code]) =
      if (BitVec.ofNat 8 arguments.length).toNat ≤ 16 ∧
          (arguments ++ [code]).length = (BitVec.ofNat 8 arguments.length).toNat + 1 ∧
          (arguments ++ [code]).getLast? = some (crc8 (frameMessage number arguments ++ [code]).dropLast) then
        decodeCommand number (arguments ++ [code]).dropLast
      else none := rfl
  rw [read]
  simp only [countByte_toNat few, few, List.length_append, List.length_singleton, List.getLast?_concat, List.dropLast_concat,
    Option.some.injEq, true_and]

/-- The contents of a link command's frame are at most the 16 argument bytes a frame can carry (R180, R187). -/
theorem frameContents_length {c : Instr} {number : Byte} {arguments : List Byte}
    (contents : frameContents c = some (number, arguments)) : arguments.length ≤ 16 := by
  cases c <;> cases contents <;> simp [be16, be32]

/-- The number and the arguments of a link command name it (R187, R202, R203). -/
theorem decodeCommand_frameContents {c : Instr} {number : Byte} {arguments : List Byte}
    (contents : frameContents c = some (number, arguments)) : decodeCommand number arguments = some c := by
  cases c with
  | setRegion index base size mode mask =>
    cases contents
    conv_rhs => rw [← join32_le32 base, ← join32_le32 size]
    rfl
  | setLog base size =>
    cases contents
    conv_rhs => rw [← join32_le32 base, ← join32_le32 size]
    rfl
  | setPolicy logFull faultAction holdLimit threshold prescaler reference timerAction =>
    cases contents
    conv_rhs => rw [← join16_le16 holdLimit, ← join16_le16 prescaler, ← join32_le32 reference]
    rfl
  | _ => cases contents <;> rfl

/-- Settles O13: the frame's CRC is the one its message has, and its contents name the command. -/
theorem linkFrameReadsBack : Obligations.LinkFrameReadsBack := by
  intro c frame encoded
  obtain ⟨⟨number, arguments⟩, contents, rfl⟩ := Option.map_eq_some_iff.1 encoded
  rw [decodeFrame_message _ _ _ (frameContents_length contents), if_pos rfl, decodeCommand_frameContents contents]

end Sys2Proof.Machine
end

/-! # What the frame receiver makes of a low period of MSCS (O14) -/

section
-- One proof after another: the threads of many at once outgrow the check's memory limit.
set_option Elab.async false
namespace Sys2Proof.Machine

/-! ## Bytes as bits (R178, R182) -/

theorem byteBits_length (b : Byte) : (byteBits b).length = 8 := rfl

theorem getD_byteBits (b : Byte) {n : Nat} (inside : n < 8) : (byteBits b).getD n false = b.getLsbD (7 - n) := by
  interval_cases n <;> rfl

/-- The eight bits of a byte, most significant first, make the byte (R178). -/
theorem byteOfBits_byteBits (b : Byte) : byteOfBits (byteBits b) = b := by
  apply BitVec.eq_of_getLsbD_eq
  intro i inside
  interval_cases i <;> simp [byteOfBits, byteBits]

theorem flatMap_byteBits_length (bytes : List Byte) : (bytes.flatMap byteBits).length = 8 * bytes.length := by
  induction bytes with
  | nil => rfl
  | cons b rest ih => rw [List.flatMap_cons, List.length_append, ih, byteBits_length, List.length_cons]; omega

/-- Bit `n` of a message is bit `7 - n % 8` of its byte `n / 8`; behind its end the bits are zero. -/
theorem getD_flatMap_byteBits (bytes : List Byte) (n : Nat) :
    (bytes.flatMap byteBits).getD n false = (bytes.getD (n / 8) 0).getLsbD (7 - n % 8) := by
  induction bytes generalizing n with
  | nil => simp
  | cons b rest ih =>
    rw [List.flatMap_cons]
    by_cases first : n < 8
    · rw [List.getD_append _ _ _ _ first, getD_byteBits b first, Nat.div_eq_of_lt first, Nat.mod_eq_of_lt first]
      rfl
    · obtain ⟨m, rfl⟩ := Nat.exists_eq_add_of_le (Nat.le_of_not_lt first)
      rw [List.getD_append_right _ _ _ _ (by simp [byteBits_length]), byteBits_length, Nat.add_sub_cancel_left, ih,
        Nat.add_mod_left, Nat.add_div_left m (by decide)]
      rfl

/-- The first `n` bits of a message are its first `n / 8` bytes and up to seven bits of the next. -/
theorem take_flatMap_byteBits (bytes : List Byte) (n : Nat) : ∃ bits : List Bool, bits.length < 8 ∧
    (bytes.flatMap byteBits).take n = (bytes.take (n / 8)).flatMap byteBits ++ bits := by
  refine ⟨((bytes.drop (n / 8)).flatMap byteBits).take (n - 8 * (bytes.take (n / 8)).length), ?_, ?_⟩
  · rw [List.length_take, flatMap_byteBits_length, List.length_drop, List.length_take]
    omega
  · conv_lhs => rw [← List.take_append_drop (n / 8) bytes, List.flatMap_append, List.take_append,
      flatMap_byteBits_length]
    congr 1
    refine List.take_of_length_le ?_
    rw [flatMap_byteBits_length, List.length_take]
    omega

/-! ## The receiver (R178) -/

/-- The receiver in RECEIVING, with the bytes received and the bits of the byte in progress. -/
def receiving (bytes : List Byte) (bits : List Bool) : Receiver :=
  { condition := .receiving, bytes := bytes, bits := bits }

theorem receiverAfter_eq (bits : List Bool) : receiverAfter bits = bits.foldl receiverClock (receiving [] []) := rfl

/-- Bits that do not fill a byte are kept as the bits of the byte in progress. -/
theorem foldl_receiverClock_partial (bytes : List Byte) (pending bits : List Bool) (short : (pending ++ bits).length < 8) :
    bits.foldl receiverClock (receiving bytes pending) = receiving bytes (pending ++ bits) := by
  induction bits generalizing pending with
  | nil => simp
  | cons bit rest ih =>
    rw [List.append_cons] at short
    have inside : (pending ++ [bit]).length ≠ 8 := by
      rw [List.length_append] at short
      omega
    have clocked : receiverClock (receiving bytes pending) bit = receiving bytes (pending ++ [bit]) := if_neg inside
    rw [List.foldl_cons, clocked, ih _ short, ← List.append_cons]

/-- The eight bits of a byte, from a byte boundary on, are taken as that byte. -/
theorem foldl_receiverClock_byteBits (bytes : List Byte) (b : Byte) :
    (byteBits b).foldl receiverClock (receiving bytes []) = receiverByte (receiving bytes []) b := by
  have last : byteBits b = (byteBits b).take 7 ++ [b.getLsbD 0] := rfl
  rw [last, List.foldl_append, foldl_receiverClock_partial _ _ _ (of_decide_eq_true rfl)]
  conv_rhs => rw [← byteOfBits_byteBits b]
  rfl

/-- A complete receiver takes no further bit (R178). -/
theorem foldl_receiverClock_complete (r : Receiver) (complete : r.condition = .complete) (bits : List Bool) :
    bits.foldl receiverClock r = r := by
  induction bits with
  | nil => rfl
  | cons bit rest ih =>
    have kept : receiverClock r bit = r := by rw [receiverClock, complete]
    rw [List.foldl_cons, kept, ih]

/-- A byte after a count above 16 is dropped, so the frame never ends (R178). -/
theorem foldl_receiverClock_overlong (number count : Byte) (long : 16 < count.toNat) (pending bits : List Bool) :
    ∃ left, bits.foldl receiverClock (receiving [number, count] pending) = receiving [number, count] left := by
  induction bits generalizing pending with
  | nil => exact ⟨pending, rfl⟩
  | cons bit rest ih =>
    have clocked : ∃ left, receiverClock (receiving [number, count] pending) bit = receiving [number, count] left := by
      by_cases whole : (pending ++ [bit]).length = 8
      · refine ⟨[], (if_pos whole).trans ?_⟩
        simp [receiverByte, receiverCount, receiving, long]
      · exact ⟨_, if_neg whole⟩
    obtain ⟨left, clocked⟩ := clocked
    rw [List.foldl_cons, clocked]
    exact ih left

/-- More bytes of the frame are to come: the count byte is not there, or it is at most 16 and asks for more (R178). -/
def Unfinished (bytes : List Byte) : Prop :=
  ∀ count, bytes[1]? = some count → count.toNat ≤ 16 ∧ bytes.length < count.toNat + 3

theorem Unfinished.of_append {bytes more : List Byte} (unfinished : Unfinished (bytes ++ more)) : Unfinished bytes := by
  intro count second
  obtain ⟨inside, _⟩ := List.getElem?_eq_some_iff.1 second
  obtain ⟨few, short⟩ := unfinished count ((List.getElem?_append_left inside).trans second)
  rw [List.length_append] at short
  exact ⟨few, by omega⟩

/-- A byte is taken unless the count byte is there and above 16 (R178). -/
theorem receiverByte_short {bytes : List Byte} {b : Byte} (few : ∀ count, bytes[1]? = some count → count.toNat ≤ 16) :
    receiverByte (receiving bytes []) b =
      if ((bytes ++ [b])[1]?).any fun count => count.toNat ≤ 16 && bytes.length + 1 == count.toNat + 3 then
        { condition := .complete, bytes := bytes ++ [b], bits := [] }
      else receiving (bytes ++ [b]) [] := by
  have counted : (receiverCount (receiving bytes [])).any (fun count => 16 < count) = false := by
    rw [receiverCount, Option.any_map, Option.any_eq_false]
    exact fun count second => decide_eq_false (Nat.not_lt.2 (few count second))
  rw [receiverByte, if_neg (by rw [counted]; exact Bool.false_ne_true)]
  simp only [receiverCount, Option.any_map, receiving, List.length_append, List.length_singleton]

theorem receiverByte_unfinished {bytes : List Byte} {b : Byte} (unfinished : Unfinished (bytes ++ [b])) :
    receiverByte (receiving bytes []) b = receiving (bytes ++ [b]) [] := by
  rw [receiverByte_short fun count second => (unfinished.of_append count second).1, if_neg]
  rw [Option.any_eq_true]
  rintro ⟨count, second, whole⟩
  obtain ⟨_, short⟩ := unfinished count second
  simp only [List.length_append, List.length_singleton] at short
  simp only [Bool.and_eq_true, beq_iff_eq] at whole
  omega

/-- The frame is complete after count + 3 bytes (R178). -/
theorem receiverByte_last {bytes : List Byte} {b count : Byte} (second : bytes[1]? = some count)
    (few : count.toNat ≤ 16) (whole : bytes.length = count.toNat + 2) :
    receiverByte (receiving bytes []) b = { condition := .complete, bytes := bytes ++ [b], bits := [] } := by
  have kept : (bytes ++ [b])[1]? = some count := (List.getElem?_append_left (by omega)).trans second
  rw [receiverByte_short fun found same => by cases second.symm.trans same; exact few, kept, if_pos]
  simp [few, whole]

theorem receiverAfter_unfinished {bytes : List Byte} (unfinished : Unfinished bytes) :
    receiverAfter (bytes.flatMap byteBits) = receiving bytes [] := by
  induction bytes using List.reverseRecOn with
  | nil => rfl
  | append_singleton bytes b ih =>
    rw [List.flatMap_append, receiverAfter, List.foldl_append, ← receiverAfter, ih unfinished.of_append,
      List.flatMap_singleton, foldl_receiverClock_byteBits, receiverByte_unfinished unfinished]

/-- The bytes before the CRC ask for one more (R178, R179). -/
theorem frameMessage_unfinished (number : Byte) {arguments : List Byte} (few : arguments.length ≤ 16) :
    Unfinished (frameMessage number arguments) := by
  intro count second
  cases second
  rw [countByte_toNat few]
  exact ⟨few, Nat.lt_succ_self _⟩

/-- The receiver after a whole frame, whatever is clocked after it (R178). -/
theorem receiverAfter_frame (number : Byte) {arguments : List Byte} (few : arguments.length ≤ 16) (code : Byte)
    (extra : List Bool) :
    receiverAfter ((frameMessage number arguments ++ [code]).flatMap byteBits ++ extra) =
      { condition := .complete, bytes := frameMessage number arguments ++ [code], bits := [] } := by
  have complete : receiverByte (receiving (frameMessage number arguments) []) code =
      { condition := .complete, bytes := frameMessage number arguments ++ [code], bits := [] } :=
    receiverByte_last (count := BitVec.ofNat 8 arguments.length) rfl (by rwa [countByte_toNat few])
      (by rw [countByte_toNat few]; rfl)
  rw [receiverAfter, List.flatMap_append, List.foldl_append, List.foldl_append, ← receiverAfter,
    receiverAfter_unfinished (frameMessage_unfinished number few), List.flatMap_singleton,
    foldl_receiverClock_byteBits, complete, foldl_receiverClock_complete _ rfl]

/-! ## The judgement (R180, R186) -/

section
variable {bits : List Bool}

/-- A frame that is not complete is discarded (R180). -/
theorem judgeFrame_receiving {bytes : List Byte} {left : List Bool} (clocked : bits ≠ [])
    (after : receiverAfter bits = receiving bytes left) : judgeFrame bits = .discarded := by
  rw [judgeFrame, if_neg clocked, after]
  rfl

/-- A complete frame is taken if its bytes name a command, else discarded (R180). -/
theorem judgeFrame_complete {bytes : List Byte} (clocked : bits ≠ [])
    (after : receiverAfter bits = { condition := .complete, bytes := bytes, bits := [] }) :
    judgeFrame bits = ((decodeFrame bytes).map FrameJudgement.taken).getD .discarded := by
  rw [judgeFrame, if_neg clocked, after]
  dsimp only
  cases decodeFrame bytes <;> rfl

end

/-- A whole frame is judged by its CRC, and by the command its number and arguments name (R180, R202). -/
theorem judgeFrame_frame (number : Byte) {arguments : List Byte} (few : arguments.length ≤ 16) (code : Byte)
    (extra : List Bool) :
    judgeFrame ((frameMessage number arguments ++ [code]).flatMap byteBits ++ extra) =
      if code = crc8 (frameMessage number arguments) then
        ((decodeCommand number arguments).map FrameJudgement.taken).getD .discarded
      else .discarded := by
  have clocked : (frameMessage number arguments ++ [code]).flatMap byteBits ++ extra ≠ [] := List.cons_ne_nil _ _
  rw [judgeFrame_complete clocked (receiverAfter_frame number few code extra),
    decodeFrame_message number arguments code few]
  split <;> rfl

/-- A frame cut short is discarded: its whole bytes ask for more, and the bits behind them fill none (R180). -/
theorem judgeFrame_cut (number : Byte) {arguments : List Byte} (few : arguments.length ≤ 16) (code : Byte) {n : Nat}
    (positive : 0 < n) (cut : n < ((frameMessage number arguments ++ [code]).flatMap byteBits).length) :
    judgeFrame (((frameMessage number arguments ++ [code]).flatMap byteBits).take n) = .discarded := by
  obtain ⟨bits, short, taken⟩ := take_flatMap_byteBits (frameMessage number arguments ++ [code]) n
  have clocked : ((frameMessage number arguments ++ [code]).flatMap byteBits).take n ≠ [] := by
    rw [Ne, List.take_eq_nil_iff]
    rintro (zero | empty)
    · omega
    · cases empty
  rw [flatMap_byteBits_length, List.length_append, List.length_singleton] at cut
  have whole : (frameMessage number arguments ++ [code]).take (n / 8) = (frameMessage number arguments).take (n / 8) :=
    List.take_append_of_le_length (by omega)
  have unfinished : Unfinished ((frameMessage number arguments).take (n / 8)) :=
    Unfinished.of_append (more := (frameMessage number arguments).drop (n / 8))
      (by rw [List.take_append_drop]; exact frameMessage_unfinished number few)
  refine judgeFrame_receiving clocked (bytes := (frameMessage number arguments).take (n / 8)) (left := bits) ?_
  rw [taken, whole, receiverAfter, List.foldl_append, ← receiverAfter, receiverAfter_unfinished unfinished]
  exact foldl_receiverClock_partial _ [] bits short

/-- A count above 16 is discarded, whatever follows it (R180). -/
theorem judgeFrame_overlong (number count : Byte) (extra : List Bool) (long : 16 < count.toNat) :
    judgeFrame ([number, count].flatMap byteBits ++ extra) = .discarded := by
  have counted : receiverAfter ([number, count].flatMap byteBits) = receiving [number, count] [] := by
    have first : receiverByte (receiving [] []) number = receiving [number] [] := rfl
    have second : receiverByte (receiving [number] []) count = receiving [number, count] [] := by
      rw [receiverByte_short (by simp), if_neg (by simp)]
      rfl
    rw [receiverAfter_eq, List.flatMap_cons, List.flatMap_singleton, List.foldl_append, foldl_receiverClock_byteBits,
      first, foldl_receiverClock_byteBits, second]
  obtain ⟨left, after⟩ := foldl_receiverClock_overlong number count long [] extra
  refine judgeFrame_receiving (List.cons_ne_nil _ _) (?_ : _ = receiving [number, count] left)
  rw [receiverAfter, List.foldl_append, ← receiverAfter, counted, after]

/-- A discarded frame leaves LINK_ERROR pending and touches nothing else (R180, R184). -/
theorem exec_frameDiscard_discarded {s : State} {bits : List Bool} (running : s.rstLow = false)
    (discarded : judgeFrame bits = .discarded) : exec (.frameDiscard bits) s = .next (s.respond .linkError []) := by
  refine congrArg Host.Outcome.next ((State.onFrame_eq running _).trans ?_)
  rw [discarded]

/-! ## The response (R182) -/

theorem Response.bytes_length (r : Response) : r.bytes.length = r.results.length + 3 := by
  simp [Response.bytes]

/-- Settles O14: the bytes the receiver has taken decide, and the response's bits are those of its bytes. -/
theorem receiverJudgesFrames : Obligations.ReceiverJudgesFrames := by
  refine ⟨fun number arguments code extra few =>
      ⟨?_, ?_, fun n positive cut => judgeFrame_cut number few code positive cut⟩, judgeFrame_overlong, rfl,
    fun s bits running discarded => exec_frameDiscard_discarded running discarded,
    fun status results _ => ⟨?_, Response.bytes_length _, ?_⟩⟩
  · intro right c named
    refine (judgeFrame_frame number few code extra).trans ?_
    rw [if_pos (by exact right), named]
    rfl
  · intro wrong
    refine (judgeFrame_frame number few code extra).trans ?_
    obtain crc | unnamed := wrong
    · exact if_neg crc
    · rw [unnamed]
      exact ite_self _
  · cases status with
    | refused reason => cases reason <;> rfl
    | _ => rfl
  · exact fun n => getD_flatMap_byteBits _ n

end Sys2Proof.Machine
end

/-! # The policy commands (O26) -/

section
-- One proof after another: the threads of many at once outgrow the check's memory limit.
set_option Elab.async false
namespace Sys2Proof.Machine

/-! ## The codes (R203) -/

section
variable {code : Byte}

theorem logFullOfCode_eq_some (assigned : code.toNat ≤ 1) : ∃ l, logFullOfCode code = some l ∧ logFullCode l = code := by
  obtain rfl | rfl : code = 0 ∨ code = 1 := by bv_omega
  · exact ⟨.wait, rfl, rfl⟩
  · exact ⟨.recycle, rfl, rfl⟩

theorem logFullOfCode_range {l : LogFullPolicy} (coded : logFullOfCode code = some l) : code.toNat ≤ 1 := by
  unfold logFullOfCode at coded
  split_ifs at coded with zero one
  · exact zero ▸ Nat.zero_le _
  · exact one ▸ Nat.le_refl _

theorem faultActionOfCode_eq_some (assigned : code.toNat ≤ 2) :
    ∃ f, faultActionOfCode code = some f ∧ faultActionCode f = code := by
  obtain rfl | rfl | rfl : code = 0 ∨ code = 1 ∨ code = 2 := by bv_omega
  · exact ⟨.ignore, rfl, rfl⟩
  · exact ⟨.freeze, rfl, rfl⟩
  · exact ⟨.freezeRollback, rfl, rfl⟩

theorem faultActionOfCode_range {f : FaultAction} (coded : faultActionOfCode code = some f) : code.toNat ≤ 2 := by
  unfold faultActionOfCode at coded
  split_ifs at coded with zero one two
  · exact zero ▸ Nat.zero_le _
  · exact one ▸ Nat.le_succ 1
  · exact two ▸ Nat.le_refl _

theorem timerActionOfCode_eq_some (assigned : code.toNat ≤ 2) :
    ∃ a, timerActionOfCode code = some a ∧ timerActionCode a = code := by
  obtain rfl | rfl | rfl : code = 0 ∨ code = 1 ∨ code = 2 := by bv_omega
  · exact ⟨.event, rfl, rfl⟩
  · exact ⟨.checkpoint, rfl, rfl⟩
  · exact ⟨.freeze, rfl, rfl⟩

theorem timerActionOfCode_range {a : TimerAction} (coded : timerActionOfCode code = some a) : code.toNat ≤ 2 := by
  unfold timerActionOfCode at coded
  split_ifs at coded with zero one two
  · exact zero ▸ Nat.zero_le _
  · exact one ▸ Nat.le_succ 1
  · exact two ▸ Nat.le_refl _

end

/-! ## The arguments (R196) -/

section
variable {logFull faultAction threshold timerAction : Byte} {holdLimit prescaler : BitVec 16} {reference : Num}

/-- The arguments of SET_POLICY are in their ranges (R196, R203). -/
def PolicyInRange (logFull faultAction threshold : Byte) (prescaler : BitVec 16) (timerAction : Byte) : Prop :=
  logFull.toNat ≤ 1 ∧ faultAction.toNat ≤ 2 ∧ timerAction.toNat ≤ 2 ∧ threshold.toNat ≤ 100 ∧
    1 ≤ prescaler.toNat ∧ prescaler.toNat ≤ 256

theorem policyArguments_eq_none (outside : ¬PolicyInRange logFull faultAction threshold prescaler timerAction) :
    policyArguments logFull faultAction holdLimit threshold prescaler reference timerAction = none := by
  unfold policyArguments
  split
  · next full fault timer =>
    exact if_neg fun ranges =>
      outside ⟨logFullOfCode_range full, faultActionOfCode_range fault, timerActionOfCode_range timer, ranges⟩
  · rfl

/-- Arguments in their ranges describe policies that READ_POLICY gives back byte for byte (R196, R197). -/
theorem policyArguments_eq_some (inside : PolicyInRange logFull faultAction threshold prescaler timerAction) : ∃ p,
    policyArguments logFull faultAction holdLimit threshold prescaler reference timerAction = some p ∧
      p.holdLimit = holdLimit ∧ p.threshold = threshold.toNat ∧ p.prescaler = prescaler.toNat ∧
      p.reference = reference ∧
      policyBytes p = [logFull, faultAction] ++ be16 holdLimit ++ [threshold] ++ be16 prescaler ++ be32 reference ++
        [timerAction] := by
  obtain ⟨full, fault, timer, ranges⟩ := inside
  obtain ⟨l, l_coded, rfl⟩ := logFullOfCode_eq_some full
  obtain ⟨f, f_coded, rfl⟩ := faultActionOfCode_eq_some fault
  obtain ⟨a, a_coded, rfl⟩ := timerActionOfCode_eq_some timer
  refine ⟨
    { logFull := l, faultAction := f, holdLimit := holdLimit, threshold := threshold.toNat,
      prescaler := prescaler.toNat, reference := reference, timerAction := a }, ?_, rfl, rfl, rfl, rfl, ?_⟩
  · simp only [policyArguments, l_coded, f_coded, a_coded, if_pos ranges]
  · simp only [policyBytes, BitVec.ofNat_toNat, BitVec.setWidth_eq]

end

/-! ## The commands -/

section
variable {s : State}

/-- The policies taken together, and the tick count returned to 0 by a changed prescaler (R50, R196). -/
def State.withPolicy (s : State) (p : Policy) : State :=
  s.withLog { s.log with policy := p, timer := s.log.timer.adopt s.log.policy p }

/-- What follows from a changed log-full policy or threshold is a walk and a low-space comparison (R196). -/
theorem State.setPolicies_walkFrame (s : State) (p : Policy) : WalkFrame (s.withPolicy p) (s.setPolicies p) := by
  have walked (u : State) (unchanged : Bool) : WalkFrame u (u.walkUnless unchanged) := by
    cases unchanged
    · exact u.walk_walkFrame
    · exact .refl u
  have compared (u : State) (unchanged : Bool) : WalkFrame u (u.compareUnless unchanged) := by
    cases unchanged
    · exact u.compareLowSpace_walkFrame
    · exact .refl u
  exact (walked _ _).trans (compared _ _)

/-- With the log-full policy and the threshold unchanged nothing follows (R196). -/
theorem State.setPolicies_unchanged {p : Policy} (full : s.log.policy.logFull = p.logFull)
    (threshold : s.log.policy.threshold = p.threshold) : s.setPolicies p = s.withPolicy p := by
  rw [State.setPolicies, full, threshold, beq_self_eq_true, beq_self_eq_true]
  rfl

theorem EpochTimer.adopt_eq (t : EpochTimer) (old new : Policy) :
    t.adopt old new = { t with ticks := if old.prescaler = new.prescaler then t.ticks else 0 } := by
  unfold EpochTimer.adopt
  split <;> rfl

variable (running : s.rstLow = false)
include running

theorem exec_setPolicy (logFull faultAction : Byte) (holdLimit : BitVec 16) (threshold : Byte) (prescaler : BitVec 16)
    (reference : Num) (timerAction : Byte) :
    exec (.setPolicy logFull faultAction holdLimit threshold prescaler reference timerAction) s = .next (
      match policyArguments logFull faultAction holdLimit threshold prescaler reference timerAction with
      | none => s.refuse .range
      | some p => (s.respond .done []).setPolicies p) :=
  congrArg Host.Outcome.next (State.onFrame_eq running _)

theorem exec_readPolicy : exec .readPolicy s = .next (s.respond .done (policyBytes s.log.policy)) :=
  congrArg Host.Outcome.next (State.onFrame_eq running _)

end

/-- Settles O26: the settings stand when the walk and the comparison are made, and both keep them (`WalkFrame`). -/
theorem setPolicyIsReadBackByReadPolicy : Obligations.SetPolicyIsReadBackByReadPolicy := by
  intro s logFull fault hold threshold prescaler reference timer running
  dsimp only
  rw [exec_setPolicy running]
  refine ⟨fun outside => ?_, fun inside => ?_⟩
  · rw [policyArguments_eq_none outside]
    rfl
  obtain ⟨p, accepted, held, low, scaled, referred, bytes⟩ :=
    policyArguments_eq_some (holdLimit := hold) (reference := reference) inside
  have frame := (s.respond .done []).setPolicies_walkFrame p
  have idle : s.log.policy.logFull = p.logFull → s.log.policy.threshold = p.threshold →
      (s.respond .done []).setPolicies p = (s.respond .done []).withPolicy p :=
    State.setPolicies_unchanged (s := s.respond .done [])
  generalize t_eq : (s.respond .done []).setPolicies p = t at frame idle
  have policy : t.log.policy = p := congrArg (·.log.policy) frame
  have clock : t.log.timer = s.log.timer.adopt s.log.policy p := congrArg (·.log.timer) frame
  have link : t.link = answered .done [] := congrArg (·.link) frame
  have rst : t.rstLow = false := (congrArg (·.rstLow) frame).trans running
  refine ⟨t, ?_, link, policy ▸ low, policy ▸ scaled, policy ▸ held, policy ▸ referred, ?_, fun full same => ?_, ?_,
    ?_⟩
  · rw [accepted, ← t_eq]
  · rw [clock, EpochTimer.adopt_eq, scaled]
  · rw [clock, policy, link]
    exact idle (full.trans (congrArg _ policy)) (same.trans low.symm)
  · rw [clock, policy, link]
    exact frame
  · rw [exec_readPolicy rst, policy, bytes]
    rfl

end Sys2Proof.Machine
end

/-! # The answers of the link commands (O12, O22) -/

section
-- One proof after another: the threads of many at once outgrow the check's memory limit.
set_option Elab.async false
namespace Sys2Proof.Machine

/-- Settles O22: NOP is its own response, in whatever state the frame is taken. -/
theorem nopOnlyAnswersDone : Obligations.NopOnlyAnswersDone :=
  fun _ running => congrArg Host.Outcome.next (State.onFrame_eq running _)

/-! ## Operations that leave the pending response -/

theorem WalkFrame.link {s t : State} (frame : WalkFrame s t) : t.link = s.link := congrArg (·.link) frame

@[simp] theorem State.walk_link (s : State) : s.walk.link = s.link := s.walk_walkFrame.link

@[simp] theorem State.setPolicies_link (s : State) (p : Policy) : (s.setPolicies p).link = s.link :=
  (s.setPolicies_walkFrame p).link

@[simp] theorem State.acceptRelease_link (s : State) (n : Nat) : (s.acceptRelease n).link = s.link := by
  simp [State.acceptRelease]

@[simp] theorem State.acceptDiscard_link (s : State) : s.acceptDiscard.link = s.link := by
  simp [State.acceptDiscard, State.restartUncommitted]

@[simp] theorem State.completeRollback_link (s : State) (cursor : RollbackCursor) (replay : Replay) :
    (s.completeRollback cursor replay).link = s.link := by
  simp [State.completeRollback]

@[simp] theorem State.readRecord_link (s : State) (cursor : RollbackCursor) (replay : Replay) :
    (s.readRecord cursor replay).link = s.link := by
  unfold State.readRecord
  dsimp only
  split <;> rfl

@[simp] theorem State.advanceReplay_link (s : State) (cursor : RollbackCursor) (replay : Replay) :
    (s.advanceReplay cursor replay).link = s.link := by
  unfold State.advanceReplay
  repeat' split
  · rfl
  · exact s.completeRollback_link _ _
  · exact s.readRecord_link _ _

@[simp] theorem State.haltAt_link (s : State) (cursor : RollbackCursor) (replay : Replay) :
    (s.haltAt cursor replay).link = s.link := by
  unfold State.haltAt
  split <;> rfl

@[simp] theorem State.thaw_link (s : State) : s.thaw.link = s.link := by
  unfold State.thaw
  split <;> rfl

/-! ## What an answer is (R184) -/

/-- `t` is an answer to a command taken in `s`: DONE with its results, STARTED without, or a refusal that changes nothing
else (R184). -/
inductive Answer (s t : State) : Prop where
  | done (results : List Byte) (link : t.link = answered .done results)
  | started (link : t.link = answered .started [])
  | refused (reason : CommandRefusal) (whole : t = s.refuse reason)

/-- Whatever state the outcome gives is an answer. -/
def Answers (s : State) (outcome : Host.Outcome State Fault Refusal) : Prop := ∀ t, outcome = .next t → Answer s t

/-! ## Every link command (R184, R187) -/

section
variable {s : State}

theorem State.startInDetached_answer {accept : State → State} (kept : ∀ u, (accept u).link = u.link) :
    Answer s (s.startInDetached accept) := by
  unfold State.startInDetached
  split
  · split
    · exact .refused _ rfl
    · exact .started (kept _)
  · exact .refused _ rfl

variable (running : s.rstLow = false)
include running

theorem Answers.onFrame {take : State → State} (answer : Answer s (take s)) : Answers s (.next (s.onFrame take)) := by
  intro t taken
  rw [State.onFrame_eq running] at taken
  cases taken
  exact answer

theorem execSetRegion_answers (index : Byte) (base size : Num) (mode mask : Byte) :
    Answers s (execSetRegion index base size mode mask s) := by
  refine .onFrame running ?_
  split
  · exact .refused _ rfl
  · split
    · exact .refused _ rfl
    · split
      · exact .refused _ rfl
      · split
        · exact .refused _ rfl
        · exact .done _ rfl

theorem execClearRegion_answers (index : Byte) : Answers s (execClearRegion index s) := by
  refine .onFrame running ?_
  split
  · exact .refused _ rfl
  · split
    · exact .refused _ rfl
    · split
      · exact .refused _ rfl
      · exact .done _ rfl

theorem execReadRegion_answers (index : Byte) : Answers s (execReadRegion index s) := by
  refine .onFrame running ?_
  split
  · exact .refused _ rfl
  · exact .done _ rfl

theorem execSetLog_answers (base size : Num) : Answers s (execSetLog base size s) := by
  refine .onFrame running ?_
  split
  · split
    · exact .refused _ rfl
    · split
      · exact .refused _ rfl
      · exact .done _ rfl
  · exact .refused _ rfl

theorem execDetach_answers : Answers s (execDetach s) := by
  refine .onFrame running ?_
  split
  · exact .started rfl
  · exact .refused _ rfl

theorem execCheckpoint_answers : Answers s (execCheckpoint s) := by
  refine .onFrame running ?_
  split
  · exact .started rfl
  · exact .refused _ rfl

theorem execRelease_answers (n : Byte) : Answers s (execRelease n s) := by
  refine .onFrame running ?_
  split
  · split
    · exact .started (State.acceptRelease_link _ _)
    · exact .refused _ rfl
  · exact .refused _ rfl

theorem execDiscard_answers : Answers s (execDiscard s) := by
  refine .onFrame running ?_
  split
  · exact .started (State.acceptDiscard_link _)
  · exact .refused _ rfl

theorem execRollback_answers (depth : Byte) : Answers s (execRollback depth s) := by
  refine .onFrame running ?_
  split
  · split
    · exact .started (State.acceptRollback_link _ _)
    · exact .refused _ rfl
  · exact .refused _ rfl

theorem execHalt_answers : Answers s (execHalt s) := by
  refine .onFrame running ?_
  split
  · refine .done [] ?_
    dsimp only
    split
    · rfl
    · exact State.haltAt_link _ _ _
  · exact .refused _ rfl

theorem execResume_answers : Answers s (execResume s) := by
  refine .onFrame running ?_
  split
  · refine .done [] ?_
    dsimp only
    split
    · rfl
    · exact State.advanceReplay_link _ _ _
  · exact .refused _ rfl

theorem execSetPolicy_answers (logFull faultAction : Byte) (holdLimit : BitVec 16) (threshold : Byte)
    (prescaler : BitVec 16) (reference : Num) (timerAction : Byte) :
    Answers s (execSetPolicy logFull faultAction holdLimit threshold prescaler reference timerAction s) := by
  refine .onFrame running ?_
  split
  · exact .refused _ rfl
  · exact .done _ (State.setPolicies_link _ _)

theorem execReadMark_answers (index : Byte) : Answers s (execReadMark index s) := by
  refine .onFrame running ?_
  split
  · exact .refused _ rfl
  · exact .done _ rfl

theorem execPopEvent_answers : Answers s (execPopEvent s) := by
  refine .onFrame running ?_
  split
  · exact .refused _ rfl
  · exact .done _ rfl

/-- Every link command taken is answered, one line for each of them. -/
theorem exec_answers {c : Instr} (command : linkCommand c = true) : Answers s (exec c s) := by
  cases c with
  | nop => exact .onFrame running (.done _ rfl)
  | readStatus => exact .onFrame running (.done _ rfl)
  | setRegion index base size mode mask => exact execSetRegion_answers running index base size mode mask
  | clearRegion index => exact execClearRegion_answers running index
  | readRegion index => exact execReadRegion_answers running index
  | setLog base size => exact execSetLog_answers running base size
  | format => exact .onFrame running (State.startInDetached_answer fun _ => rfl)
  | attach => exact .onFrame running (State.startInDetached_answer fun _ => rfl)
  | detach => exact execDetach_answers running
  | checkpoint => exact execCheckpoint_answers running
  | release n => exact execRelease_answers running n
  | discard => exact execDiscard_answers running
  | rollback depth => exact execRollback_answers running depth
  | halt => exact execHalt_answers running
  | resume => exact execResume_answers running
  | freeze => exact .onFrame running (.done _ rfl)
  | thaw => exact .onFrame running (.done _ (State.thaw_link _))
  | setPolicy logFull faultAction holdLimit threshold prescaler reference timerAction =>
    exact execSetPolicy_answers running logFull faultAction holdLimit threshold prescaler reference timerAction
  | readPolicy => exact .onFrame running (.done _ rfl)
  | readMark index => exact execReadMark_answers running index
  | popEvent => exact execPopEvent_answers running
  | clearSummary => exact .onFrame running (.done _ rfl)
  | restart => exact .onFrame running (.done _ rfl)
  | _ => cases command

end

/-- Settles O12: a refusal is `State.refuse`, and whatever else a command does leaves its response. -/
theorem refusedCommandChangesOnlyTheResponse : Obligations.RefusedCommandChangesOnlyTheResponse := by
  intro c s t command running taken
  cases exec_answers running command t taken with
  | done results link => exact ⟨.done, results, link, by simp⟩
  | started link => exact ⟨.started, [], link, by simp⟩
  | refused reason whole => subst whole; exact ⟨.refused reason, [], rfl, by simp, fun _ => rfl, fun _ => rfl⟩

end Sys2Proof.Machine
end

/-! # The step takes the front command (O1) -/

section
namespace Sys2Proof.Machine

theorem step_of_pending_cons {s : State} {c : Instr} {rest : List Instr} (queue : s.pending = c :: rest) :
    step s = exec c (s.withPending rest) := by
  simp only [step, queue]

theorem step_of_pending_nil {s : State} (empty : s.pending = []) : step s = .next s := by
  simp only [step, empty]

/-- Settles O1: a queue with a front command takes it, and an empty queue idles. -/
theorem stepTakesTheFrontCommand : Obligations.StepTakesTheFrontCommand := by
  refine ⟨fun c rest s => ?front, fun s => ?idle⟩
  case front => exact step_of_pending_cons (s := { s with pending := c :: rest }) rfl
  case idle => exact step_of_pending_nil (s := { s with pending := [] }) rfl

end Sys2Proof.Machine
end
